-- ==== Sys2Proof/Word.lean ====
section
/-! DEFINITION. The two word types of CNT7 (R13): the 8-bit datum every access moves (R51) and the 16-bit
micro-operation word (R72). Nothing in CNT7 is signed. -/

namespace Sys2Proof

/-- `Bits8` of R13: every datum of CNT7 is one byte (R51, R53). -/
abbrev Byte := BitVec 8

/-- `Bits16` of R13: one micro-operation word (R72), and the container of an NVM address (R9, R22). -/
abbrev Word := BitVec 16

end Sys2Proof
end

