-- ==== Sys2Proof/Syntax.lean ====
section
/-! DEFINITION. The instructions of CNT7: one constructor of `Instr` per row of the opcode table, that is the 33
fetchable micro-operations (MOPs), the five environment events and the two combinational functions. -/

namespace Sys2Proof

/-- A working-register operand (R74): 0 names CUR, 1 names NXT. -/
inductive WReg where
  | cur
  | nxt
  deriving DecidableEq, Repr

/-- The environment events of R84. -/
inductive Event where
  | edge
  | commit
  | pgmset
  | pgmclr
  | reset
  deriving DecidableEq, Repr

/-- One constructor per row of spec/opcode_table.json, in the table's order. -/
inductive Instr where
  /-- `NOP` (R163) -/
  | nop
  /-- `WR NVCR, CLR` (R125) -/
  | wrNvcrClr
  /-- `WR NVCR, RE`, the read strobe (R126) -/
  | wrNvcrRe
  /-- `WR NVCR, WS`, the write strobe (R129) -/
  | wrNvcrWs
  /-- `WR NVCR, WE`, the write enable (R127) -/
  | wrNvcrWe
  /-- `WR NVDAT, imm8` (R124) -/
  | wrNvdat (imm : Byte)
  /-- `WR NVADRL, imm8` (R122) -/
  | wrNvadrl (imm : Byte)
  /-- `WR NVADRH, imm8` (R123) -/
  | wrNvadrh (imm : Byte)
  /-- `WR DISP, imm8` (R132) -/
  | wrDisp (imm : Byte)
  /-- `WR DIR, imm8` (R133) -/
  | wrDir (imm : Byte)
  /-- `WR ICR, imm3` (R134); well-formed only with `imm[7:3] = 0` -/
  | wrIcr (imm : Byte)
  /-- `WRR NVDAT, r` (R135) -/
  | wrrNvdat (r : WReg)
  /-- `WRR NVADRL, r` (R136) -/
  | wrrNvadrl (r : WReg)
  /-- `WRR NVADRH, r` (R137) -/
  | wrrNvadrh (r : WReg)
  /-- `WRR DISP, r` (R138) -/
  | wrrDisp (r : WReg)
  /-- `WRR DIR, r` (R139) -/
  | wrrDir (r : WReg)
  /-- `RD r, NVCR` (R140) -/
  | rdNvcr (r : WReg)
  /-- `RD r, NVDAT` (R141) -/
  | rdNvdat (r : WReg)
  /-- `RD r, NVADRL` (R142) -/
  | rdNvadrl (r : WReg)
  /-- `RD r, NVADRH` (R143) -/
  | rdNvadrh (r : WReg)
  /-- `RD r, DISP` (R144) -/
  | rdDisp (r : WReg)
  /-- `RD r, ICR` (R145) -/
  | rdIcr (r : WReg)
  /-- `RD r, STAT` (R146) -/
  | rdStat (r : WReg)
  /-- `RD r, DIR` (R147) -/
  | rdDir (r : WReg)
  /-- `WAITRDY` (R148) -/
  | waitrdy
  /-- `INC` (R171) -/
  | inc
  /-- `FLIPT`, the edge filter (R170) -/
  | flipt
  /-- `TGLS` (R174) -/
  | tgls
  /-- `CLI_SAVE` (R175) -/
  | cliSave
  /-- `I_RESTORE` (R176) -/
  | iRestore
  /-- `RETI` (R207) -/
  | reti
  /-- `IDLE` (R173) -/
  | idle
  /-- `ENCOUT r` (R172) -/
  | encout (r : WReg)
  /-- event `@EDGE` (R160) -/
  | evEdge
  /-- event `@COMMIT` (R131) -/
  | evCommit
  /-- event `@PGMSET` (R149) -/
  | evPgmset
  /-- event `@PGMCLR` (R150) -/
  | evPgmclr
  /-- event `@RESET` (R231) -/
  | evReset
  /-- the combinational function `ENCODE` on the input `d` (R101) -/
  | segEncode (d : Byte)
  /-- the combinational function `OUTPAT` on the input `s` (R105) -/
  | segOutpat (s : Byte)
  deriving DecidableEq, Repr

end Sys2Proof
end

