-- ==== Sys2Proof/Config.lean ====
section
/-! DEFINITION. What an implementation of CNT7 fixes (the parameters R6 to R12) as plain data, and the free
values (the draws of R16) as constants with no body. The parameters are a value of `Params` that the state
carries and no step changes (log entry 1); the spec's default values are in Machine/Defaults.lean. -/

namespace Sys2Proof

/-- `INC_MODE` (R8): how `(current + 1) mod 10` is computed (R171). -/
inductive IncMode where
  /-- over the naturals: 0xFF gives 6 -/
  | exact
  /-- modulo 256 first: 0xFF gives 0 -/
  | wrap8
  deriving DecidableEq, Repr

/-- The parameters of a CNT7 instance, R6 to R10 and R12. `NVM_INIT` (R11) is the content of the state's NVM at
launch, and `MAIN_PROGRAM` (R12) is the state's main micro-program. -/
structure Params where
  /-- `SEG_LUT` (R6): the Segment Set of each digit glyph, in the layout of R70 -/
  segLut : Vector Byte 10
  /-- `CMPL_DOT` (R7): the DOT bit of the eight complement-defined glyphs -/
  cmplDot : Bool
  /-- `INC_MODE` (R8) -/
  incMode : IncMode
  /-- `NVM_ADDR_BITS` (R9): the width of an NVM address, 1 to 16 -/
  nvmAddrBits : Nat
  /-- `SLOT_ADDR` (R10): the address of the Persisted Counter -/
  slotAddr : Word
  /-- `DIR_VALUE` (R12): what the boot program writes to the direction register -/
  dirValue : Byte
  /-- `WE_WINDOW_CYCLES` (R12): of a timed implementation only; the untimed model uses R128 instead -/
  weWindowCycles : Nat
  deriving DecidableEq, Repr

/-- A one-bit draw (R16), free for every value of the state's draw counter (log entry 4). -/
opaque Config.drawBit : Nat → Bool

/-- An eight-bit draw (R16), free for every value of the state's draw counter (log entry 4). -/
opaque Config.drawByte : Nat → Byte

/-- A draw of an NVM address (R16, R41); the step narrows it to `NVM_ADDR_BITS` (log entry 4). -/
opaque Config.drawAddr : Nat → Word

end Sys2Proof
end

