-- ==== Sys2Proof/WellFormed.lean ====
section
/-! DEFINITION. The checks on instructions and on parameter values that the types do not make: an ICR write keeps
bits 7:3 zero (R81, R134), and a `Params` value meets R6 to R10. -/

namespace Sys2Proof

/-- R134: the operand of `WR ICR` has `imm8[7:3] = 0`. Every other instruction is well-formed as it stands. -/
def wellFormed : Instr → Bool
  | .wrIcr imm => imm.extractLsb' 3 5 == 0#5
  | _ => true

/-- The eight digits whose glyphs are defined as complements (R102). -/
def complementDigits : List (Fin 10) := [0, 2, 3, 4, 5, 6, 8, 9]

/-- R6: the ten glyphs are pairwise distinct. -/
def glyphsDistinct (p : Params) : Bool := decide p.segLut.toList.Nodup

/-- R7: the DOT bit of every complement-defined glyph is `CMPL_DOT`. -/
def dotAsDeclared (p : Params) : Bool := complementDigits.all fun d => (p.segLut.get d).getLsbD 7 == p.cmplDot

/-- R9: `1 <= NVM_ADDR_BITS <= 16`. -/
def addrBitsInRange (p : Params) : Bool := decide (1 ≤ p.nvmAddrBits) && decide (p.nvmAddrBits ≤ 16)

/-- R10: `SLOT_ADDR` is an NVM address. -/
def slotInRange (p : Params) : Bool := decide (p.slotAddr.toNat < 2 ^ p.nvmAddrBits)

/-- The parameter values a model admits (R6 to R10). -/
def paramsOk (p : Params) : Bool := glyphsDistinct p && dotAsDeclared p && addrBitsInRange p && slotInRange p

end Sys2Proof
end

