-- ==== Sys2Proof/Decode.lean ====
section
/-! DEFINITION. The micro-operation word: its fields (R72, R73), the total decoder (R86, R87), which names the
condition of R86 that makes a word reserved, and after it the encoder, written from the same tables (R76, R79,
R82, R84, R88). A MOP word is a 16-bit value with no byte order (R51). -/

namespace Sys2Proof

/-- `lo(a) = a[7:0]` (R88). -/
def loByte (a : Word) : Byte := a.extractLsb' 0 8

/-- `hi(a) = a[15:8]` (R88). -/
def hiByte (a : Word) : Byte := a.extractLsb' 8 8

/-- CLASS, bits 15:12 (R72). -/
def classField (w : Word) : BitVec 4 := w.extractLsb' 12 4

/-- SEL, bits 11:8 (R72). -/
def selField (w : Word) : BitVec 4 := w.extractLsb' 8 4

/-- DATA, bits 7:0 (R72). -/
def dataField (w : Word) : Byte := w.extractLsb' 0 8

/-- The twelve conditions of R86, in its order; the decoder names one that holds (log entry 14). -/
inductive Reserved where
  /-- 1: CLASS is 0x5 to 0x7 or 0x9 to 0xF -/
  | noSuchClass
  /-- 2: CLASS = 0x0 and the word is not 0x0000 -/
  | nopNotZero
  /-- 3: CLASS is 0x1, 0x2 or 0x3 and SEL >= 8 -/
  | noSuchRegister
  /-- 4: a write of NVCR with DATA not in {0x00, 0x01, 0x02, 0x04} -/
  | strobeValue
  /-- 5: a write of ICR with DATA[7:3] != 0 -/
  | icrHighBits
  /-- 6: a write of STAT -/
  | statWrite
  /-- 7: WRR to NVCR, ICR or STAT -/
  | wrrNotAllowed
  /-- 8: WRR or RD with DATA[7:1] != 0 -/
  | operandBits
  /-- 9: CLASS = 0x4 and SEL >= 9 -/
  | noSuchAction
  /-- 10: an action other than ENCOUT with DATA != 0 -/
  | actionData
  /-- 11: ENCOUT with DATA[7:1] != 0 -/
  | encoutOperand
  /-- 12: CLASS = 0x8 and (SEL >= 5 or DATA != 0) -/
  | eventForm
  deriving DecidableEq, Repr

/-- The decoder's result type, `Mop ⊕ Event ⊕ Reserved` (R87). -/
inductive Decoded where
  | mop (i : Instr)
  | event (e : Event)
  | reserved (c : Reserved)
  deriving DecidableEq, Repr

/-- The working register that DATA names, if DATA[7:1] = 0 (R73, R74). -/
def registerOperand (d : Byte) : Option WReg :=
  if d.extractLsb' 1 7 = 0#7 then some (if d.getLsbD 0 then .nxt else .cur) else none

/-- A MOP whose DATA is a working register, or the condition under which it is reserved. -/
def decodeWithRegister (f : WReg → Instr) (c : Reserved) (d : Byte) : Decoded :=
  match registerOperand d with
  | some r => .mop (f r)
  | none => .reserved c

/-- CLASS 0x1, a bus write of an immediate (R76, R79, R81). -/
def decodeWr (sel : BitVec 4) (d : Byte) : Decoded :=
  match sel.toNat with
  | 0 =>
    match d.toNat with
    | 0 => .mop .wrNvcrClr
    | 1 => .mop .wrNvcrRe
    | 2 => .mop .wrNvcrWs
    | 4 => .mop .wrNvcrWe
    | _ => .reserved .strobeValue
  | 1 => .mop (.wrNvdat d)
  | 2 => .mop (.wrNvadrl d)
  | 3 => .mop (.wrNvadrh d)
  | 4 => .mop (.wrDisp d)
  | 5 => if d.extractLsb' 3 5 = 0#5 then .mop (.wrIcr d) else .reserved .icrHighBits
  | 6 => .reserved .statWrite
  | 7 => .mop (.wrDir d)
  | _ => .reserved .noSuchRegister

/-- CLASS 0x2, a bus write from a working register (R76). -/
def decodeWrr (sel : BitVec 4) (d : Byte) : Decoded :=
  match sel.toNat with
  | 0 => .reserved .wrrNotAllowed
  | 1 => decodeWithRegister .wrrNvdat .operandBits d
  | 2 => decodeWithRegister .wrrNvadrl .operandBits d
  | 3 => decodeWithRegister .wrrNvadrh .operandBits d
  | 4 => decodeWithRegister .wrrDisp .operandBits d
  | 5 => .reserved .wrrNotAllowed
  | 6 => .reserved .wrrNotAllowed
  | 7 => decodeWithRegister .wrrDir .operandBits d
  | _ => .reserved .noSuchRegister

/-- CLASS 0x3, a bus read into a working register (R76). -/
def decodeRd (sel : BitVec 4) (d : Byte) : Decoded :=
  match sel.toNat with
  | 0 => decodeWithRegister .rdNvcr .operandBits d
  | 1 => decodeWithRegister .rdNvdat .operandBits d
  | 2 => decodeWithRegister .rdNvadrl .operandBits d
  | 3 => decodeWithRegister .rdNvadrh .operandBits d
  | 4 => decodeWithRegister .rdDisp .operandBits d
  | 5 => decodeWithRegister .rdIcr .operandBits d
  | 6 => decodeWithRegister .rdStat .operandBits d
  | 7 => decodeWithRegister .rdDir .operandBits d
  | _ => .reserved .noSuchRegister

/-- An action with no operand: DATA must be 0 (R82, R86 condition 10). -/
def decodePlainAction (i : Instr) (d : Byte) : Decoded :=
  if d = 0#8 then .mop i else .reserved .actionData

/-- CLASS 0x4, a sequencer action (R82). -/
def decodeAct (sel : BitVec 4) (d : Byte) : Decoded :=
  match sel.toNat with
  | 0 => decodePlainAction .waitrdy d
  | 1 => decodePlainAction .inc d
  | 2 => decodeWithRegister .encout .encoutOperand d
  | 3 => decodePlainAction .flipt d
  | 4 => decodePlainAction .tgls d
  | 5 => decodePlainAction .cliSave d
  | 6 => decodePlainAction .iRestore d
  | 7 => decodePlainAction .reti d
  | 8 => decodePlainAction .idle d
  | _ => .reserved .noSuchAction

/-- CLASS 0x8, an environment event (R84). -/
def decodeEvt (sel : BitVec 4) (d : Byte) : Decoded :=
  if d = 0#8 then
    match sel.toNat with
    | 0 => .event .edge
    | 1 => .event .commit
    | 2 => .event .pgmset
    | 3 => .event .pgmclr
    | 4 => .event .reset
    | _ => .reserved .eventForm
  else .reserved .eventForm

/-- The decoder of R87: total on 16-bit words. -/
def decode (w : Word) : Decoded :=
  match (classField w).toNat with
  | 0 => if w = 0#16 then .mop .nop else .reserved .nopNotZero
  | 1 => decodeWr (selField w) (dataField w)
  | 2 => decodeWrr (selField w) (dataField w)
  | 3 => decodeRd (selField w) (dataField w)
  | 4 => decodeAct (selField w) (dataField w)
  | 8 => decodeEvt (selField w) (dataField w)
  | _ => .reserved .noSuchClass

/-- The instruction an environment event is (one row of the opcode table each, R84). -/
def eventInstr : Event → Instr
  | .edge => .evEdge
  | .commit => .evCommit
  | .pgmset => .evPgmset
  | .pgmclr => .evPgmclr
  | .reset => .evReset

/-- The instruction a decoded word stands for, if it is legal. -/
def decodedInstr : Decoded → Option Instr
  | .mop i => some i
  | .event e => some (eventInstr e)
  | .reserved _ => none

/-- `decodeTableWord nbits w`: the instruction the decoder reads from the word whose low `nbits` bits are those of
`w` and whose bits above them are 0. A MOP is one 16-bit word (R72), so only the first word counts. -/
def decodeTableWord (nbits w : Nat) : Option Instr :=
  decodedInstr (decode (BitVec.ofNat 16 (w % 2 ^ nbits)))

/-- The word `{CLASS, SEL, DATA}` (R72). -/
def mopWord (cls sel : BitVec 4) (d : Byte) : Word := cls ++ sel ++ d

/-- DATA of a working-register operand (R74). -/
def registerData : WReg → Byte
  | .cur => 0x00#8
  | .nxt => 0x01#8

/-- The word of an instruction (R88); the two combinational functions have none, since SEGENC is not a MOP (R85). -/
def encode : Instr → Option Word
  | .nop => some (mopWord 0x0#4 0x0#4 0x00#8)
  | .wrNvcrClr => some (mopWord 0x1#4 0x0#4 0x00#8)
  | .wrNvcrRe => some (mopWord 0x1#4 0x0#4 0x01#8)
  | .wrNvcrWs => some (mopWord 0x1#4 0x0#4 0x02#8)
  | .wrNvcrWe => some (mopWord 0x1#4 0x0#4 0x04#8)
  | .wrNvdat imm => some (mopWord 0x1#4 0x1#4 imm)
  | .wrNvadrl imm => some (mopWord 0x1#4 0x2#4 imm)
  | .wrNvadrh imm => some (mopWord 0x1#4 0x3#4 imm)
  | .wrDisp imm => some (mopWord 0x1#4 0x4#4 imm)
  | .wrDir imm => some (mopWord 0x1#4 0x7#4 imm)
  | .wrIcr imm => some (mopWord 0x1#4 0x5#4 imm)
  | .wrrNvdat r => some (mopWord 0x2#4 0x1#4 (registerData r))
  | .wrrNvadrl r => some (mopWord 0x2#4 0x2#4 (registerData r))
  | .wrrNvadrh r => some (mopWord 0x2#4 0x3#4 (registerData r))
  | .wrrDisp r => some (mopWord 0x2#4 0x4#4 (registerData r))
  | .wrrDir r => some (mopWord 0x2#4 0x7#4 (registerData r))
  | .rdNvcr r => some (mopWord 0x3#4 0x0#4 (registerData r))
  | .rdNvdat r => some (mopWord 0x3#4 0x1#4 (registerData r))
  | .rdNvadrl r => some (mopWord 0x3#4 0x2#4 (registerData r))
  | .rdNvadrh r => some (mopWord 0x3#4 0x3#4 (registerData r))
  | .rdDisp r => some (mopWord 0x3#4 0x4#4 (registerData r))
  | .rdIcr r => some (mopWord 0x3#4 0x5#4 (registerData r))
  | .rdStat r => some (mopWord 0x3#4 0x6#4 (registerData r))
  | .rdDir r => some (mopWord 0x3#4 0x7#4 (registerData r))
  | .waitrdy => some (mopWord 0x4#4 0x0#4 0x00#8)
  | .inc => some (mopWord 0x4#4 0x1#4 0x00#8)
  | .flipt => some (mopWord 0x4#4 0x3#4 0x00#8)
  | .tgls => some (mopWord 0x4#4 0x4#4 0x00#8)
  | .cliSave => some (mopWord 0x4#4 0x5#4 0x00#8)
  | .iRestore => some (mopWord 0x4#4 0x6#4 0x00#8)
  | .reti => some (mopWord 0x4#4 0x7#4 0x00#8)
  | .idle => some (mopWord 0x4#4 0x8#4 0x00#8)
  | .encout r => some (mopWord 0x4#4 0x2#4 (registerData r))
  | .evEdge => some (mopWord 0x8#4 0x0#4 0x00#8)
  | .evCommit => some (mopWord 0x8#4 0x1#4 0x00#8)
  | .evPgmset => some (mopWord 0x8#4 0x2#4 0x00#8)
  | .evPgmclr => some (mopWord 0x8#4 0x3#4 0x00#8)
  | .evReset => some (mopWord 0x8#4 0x4#4 0x00#8)
  | .segEncode _ => none
  | .segOutpat _ => none

end Sys2Proof
end

