-- ==== Sys2Proof/Machine/Defaults.lean ====
section
/-! DEFINITION. The spec's default parameter values: the glyph table of R102 and R103 in both definition styles, and
the instance the test vectors use (log entry 1). -/

namespace Sys2Proof.Machine

/-- The segment masks of R70. -/
def segA : Byte := 0x01#8
/-- R70 -/
def segB : Byte := 0x02#8
/-- R70 -/
def segC : Byte := 0x04#8
/-- R70 -/
def segD : Byte := 0x08#8
/-- R70 -/
def segE : Byte := 0x10#8
/-- R70 -/
def segF : Byte := 0x20#8
/-- R70 -/
def segG : Byte := 0x40#8
/-- R70 -/
def segDot : Byte := 0x80#8

/-- A glyph given by the segments that must stay unlit (R102): the complement over all eight flags, with DOT among the
unlit ones when `CMPL_DOT = 0`. -/
def complementGlyph (cmplDot : Bool) (unlit : Byte) : Byte :=
  0xFF#8 &&& ~~~(unlit ||| (if cmplDot then 0#8 else segDot))

/-- The default `SEG_LUT` (R103): digits 1 and 7 are positive unions, the others complements. -/
def defaultSegLut (cmplDot : Bool) : Vector Byte 10 :=
  #v[complementGlyph cmplDot segG,
     segB ||| segC,
     complementGlyph cmplDot (segC ||| segF),
     complementGlyph cmplDot (segE ||| segF),
     complementGlyph cmplDot (segA ||| segD ||| segE),
     complementGlyph cmplDot (segB ||| segE),
     complementGlyph cmplDot segB,
     segA ||| segB ||| segC,
     complementGlyph cmplDot 0#8,
     complementGlyph cmplDot segE]

/-- The defaults of R6 to R8, R10 and R12; where the spec gives no default (`NVM_ADDR_BITS`, `DIR_VALUE`), the
value its test vectors use. DESIGN CHOICE, log entry 1. -/
def defaultParams : Params where
  segLut := defaultSegLut false
  cmplDot := false
  incMode := .exact
  nvmAddrBits := 9
  slotAddr := 0#16
  dirValue := 0xFF#8
  weWindowCycles := 4

end Sys2Proof.Machine
end

