-- ==== Sys2Proof/Machine/MicroPrograms.lean ====
section
/-! DEFINITION. The pseudo-operations (R89 to R91) and the two fixed micro-programs, HANDLER_ROM (R190) and BOOT_ROM
(R191): each as its list of MOPs and as its list of words, the MOP and the word column of the spec's tables. -/

namespace Sys2Proof.Machine

/-- `NV_READ r` (R89). -/
def nvRead (p : Params) (r : WReg) : List Instr :=
  [.cliSave, .waitrdy, .wrNvadrl (loByte p.slotAddr), .wrNvadrh (hiByte p.slotAddr), .wrNvcrRe, .rdNvdat r, .iRestore]

/-- The eight MOPs of an NVM write whose data register is set by the MOP `setData` (R90). -/
def nvWriteBy (p : Params) (setData : Instr) : List Instr :=
  [.cliSave, .waitrdy, .wrNvadrl (loByte p.slotAddr), .wrNvadrh (hiByte p.slotAddr), setData, .wrNvcrWe, .wrNvcrWs,
   .iRestore]

/-- `NV_WRITE r` (R90). -/
def nvWrite (p : Params) (r : WReg) : List Instr := nvWriteBy p (.wrrNvdat r)

/-- `NV_WRITE #imm` (R90). -/
def nvWriteImm (p : Params) (imm : Byte) : List Instr := nvWriteBy p (.wrNvdat imm)

/-- `ARM` (R91). -/
def arm : List Instr := [.wrIcr 0x01#8, .wrIcr 0x03#8, .wrIcr 0x07#8]

/-- HANDLER_ROM as MOPs (R190): HPC 2 to 8 is `NV_READ CUR` and HPC 10 to 17 is `NV_WRITE NXT`. -/
def handlerMops (p : Params) : List Instr :=
  [.flipt, .tgls] ++ nvRead p .cur ++ [.inc] ++ nvWrite p .nxt ++ [.encout .nxt, .reti]

/-- BOOT_ROM as MOPs (R191): MPC 1 to 7 is `NV_READ CUR` and MPC 9 to 11 is `ARM`. -/
def bootMops (p : Params) : List Instr :=
  [.wrDir p.dirValue] ++ nvRead p .cur ++ [.encout .cur] ++ arm ++ [.idle]

/-- The word `hhll` of a MOP whose CLASS and SEL are `hh` and whose DATA is `ll`. -/
def wordOf (hh ll : Byte) : Word := hh ++ ll

/-- HANDLER_ROM, the words of HPC 0 to 19 (R190). -/
def handlerRom (p : Params) : List Word :=
  [0x4300#16, 0x4400#16, 0x4500#16, 0x4000#16, wordOf 0x12#8 (loByte p.slotAddr), wordOf 0x13#8 (hiByte p.slotAddr),
   0x1001#16, 0x3100#16, 0x4600#16, 0x4100#16] ++
  [0x4500#16, 0x4000#16, wordOf 0x12#8 (loByte p.slotAddr), wordOf 0x13#8 (hiByte p.slotAddr), 0x2101#16, 0x1004#16,
   0x1002#16, 0x4600#16, 0x4201#16, 0x4700#16]

/-- BOOT_ROM, the words of MPC 0 to 12 (R191); the default MAIN_PROGRAM (R12). -/
def bootRom (p : Params) : List Word :=
  [wordOf 0x17#8 p.dirValue, 0x4500#16, 0x4000#16, wordOf 0x12#8 (loByte p.slotAddr),
   wordOf 0x13#8 (hiByte p.slotAddr), 0x1001#16, 0x3100#16, 0x4600#16, 0x4200#16, 0x1501#16, 0x1503#16, 0x1507#16,
   0x4800#16]

end Sys2Proof.Machine
end

