-- ==== Sys2Proof/Machine/State.lean ====
section
/-! DEFINITION. The state of CNT7 (R20) as plain data, the outcomes' reasons, and the state after reset (R41). The
first group of fields is the state record of R20, element by element; the second group is what R20 leaves to other
rules and the model must carry to be one deterministic machine: the parameters, the micro-program space, the
environment's turns, the draw counter and SEGENC's output when it is evaluated on its own. -/

namespace Sys2Proof.Machine

/-- The execution context of R27 and R211. -/
inductive Ctx where
  | main
  | isr
  deriving DecidableEq, Repr

/-- The fault kinds of R201. -/
inductive FaultKind where
  | nvmcBusy
  | unwritten
  | context
  | nest
  | runOffEnd
  deriving DecidableEq, Repr

/-- What a fault records (R201): kind, CTX and upc always, the word but for RUN_OFF_END, the register for UNWRITTEN. -/
structure FaultRecord where
  kind : FaultKind
  ctx : Ctx
  upc : Nat
  word : Option Word
  reg : Option WReg
  deriving DecidableEq, Repr

/-- Whose step comes next (R17): the sequencer's, or the delivery of an environment event. -/
inductive Turn where
  | seq
  | env (e : Event)
  deriving DecidableEq, Repr

/-- NVM as address and byte pairs in one canonical form (`Memory.wf`, Machine/Ops.lean). -/
abbrev Memory := List Host.Cell

/-- The state of CNT7. -/
structure State where
  /-- `NVM` (R21): the cells that differ from `erasedByte` -/
  nvm : Memory
  /-- `NVADR` (R22), kept in 16 bits and narrowed to `NVM_ADDR_BITS` (log entry 13) -/
  nvadr : Word
  /-- `NVDAT` (R23) -/
  nvdat : Byte
  /-- `WE_ARMED` (R24, R128) -/
  weArmed : Bool
  /-- `BUSY` (R24) -/
  busy : Bool
  /-- `LADR` (R25) -/
  ladr : Word
  /-- `LDAT` (R25) -/
  ldat : Byte
  /-- `PGM_BUSY`, an input (R26) -/
  pgmBusy : Bool
  /-- `CTX` (R27) -/
  ctx : Ctx
  /-- `MPC` (R27), a natural number that does not wrap -/
  mpc : Nat
  /-- `HPC` (R27) -/
  hpc : Nat
  /-- `CUR` (R28): a byte or, `none`, the spec's own value *unwritten* -/
  cur : Option Byte
  /-- `NXT` (R28): a byte or, `none`, the spec's own value *unwritten* -/
  nxt : Option Byte
  /-- `I`, the global interrupt flag (R29) -/
  iFlag : Bool
  /-- `SAVED_I` (R29) -/
  savedI : Bool
  /-- `T`, the Toggle/Debounce Flag (R30) -/
  tFlag : Bool
  /-- `S`, the Status Indicator Line (R31) -/
  sLine : Bool
  /-- `DISP` (R32) -/
  disp : Byte
  /-- `DIR` (R33) -/
  dir : Byte
  /-- `GRP_EN` (R34) -/
  grpEn : Bool
  /-- `PIN_EN` (R34) -/
  pinEn : Bool
  /-- `PEND` (R35) -/
  pend : Bool
  /-- `IN`, an input line (R36) -/
  inLine : Bool
  /-- `FAULT` (R38), with what R201 records -/
  fault : Option FaultRecord
  /-- `REFUSED` (R38) -/
  refused : Bool
  /-- the parameters of this instance (R6 to R12); no step writes them (log entry 1) -/
  params : Params
  /-- `MAIN_PROGRAM` (R12, R50, R61); no step writes it -/
  mainProgram : List Word
  /-- HANDLER_ROM (R50, R61, R190); no step writes it (log entry 17) -/
  handlerProgram : List Word
  /-- the model's own: whose steps come next; when it is empty it is SEQ's turn (R17, log entry 5) -/
  turns : List Turn
  /-- the model's own: how many draws have been taken (R16, log entry 4) -/
  draws : Nat
  /-- the model's own: the output of the last ENCODE or OUTPAT evaluated on its own; nothing reads it (log entry 8) -/
  segOut : Byte
  deriving DecidableEq, Repr

/-- Why a step does not exist because the machine has stopped. -/
inductive Fault where
  /-- raised by the sequencer's turn in a state with FAULT set: "no step (stopped for good)" (R38, R162). Safe: the
  spec has no such step. The MOP that set FAULT answered a next state (R201, R203). -/
  | stopped (r : FaultRecord)
  deriving DecidableEq, Repr

/-- Why a step or an instruction has no meaning. -/
inductive Refusal where
  /-- raised by exec's arm of an instruction that has no meaning yet; no arm raises it. Safe. -/
  | notModelled (mnemonic : String)
  /-- raised by the sequencer's turn in a state with REFUSED = 1: "a refused state has no SEQ step" (R162, R202).
  Safe: the spec has no such step. The fetch that set REFUSED answered a next state. -/
  | stoppedRefused
  deriving DecidableEq, Repr

/-- The state after RESET of an instance with parameters `p` (R41, R232): the values R41 gives, and for what it leaves
a draw or external (NVM, NVADR, NVDAT, LADR, LDAT, PGM_BUSY, S, DISP, DIR, IN) the values log entries 2 and 3 name. -/
def resetWith (p : Params) : State where
  nvm := []
  nvadr := 0#16
  nvdat := 0#8
  weArmed := false
  busy := false
  ladr := 0#16
  ldat := 0#8
  pgmBusy := false
  ctx := .main
  mpc := 0
  hpc := 0
  cur := none
  nxt := none
  iFlag := false
  savedI := false
  tFlag := false
  sLine := false
  disp := 0#8
  dir := 0#8
  grpEn := false
  pinEn := false
  pend := false
  inLine := false
  fault := none
  refused := false
  params := p
  mainProgram := bootRom p
  handlerProgram := handlerRom p
  turns := []
  draws := 0
  segOut := 0#8

/-- The machine right after reset (R41), with the default parameters. -/
def State.reset : State := resetWith defaultParams

end Sys2Proof.Machine
end

