-- ==== Sys2Proof/Machine/Flags.lean ====
section
/-! DEFINITION. The bytes in which the bus shows CNT7's flags (NVCR, ICR and STAT; R37, R79, R81), the busy condition
of the NVM controller (R121, R148) and the interrupt request (R161). -/

namespace Sys2Proof.Machine

/-- What a read of NVCR returns: `{0b00000, WE_ARMED, BUSY, 0}` (R79). -/
def nvcrByte (s : State) : Byte := 0#5 ++ BitVec.ofBool s.weArmed ++ BitVec.ofBool s.busy ++ 0#1

/-- What a read of ICR returns: `{0b00000, I, PIN_EN, GRP_EN}` (R81). -/
def icrByte (s : State) : Byte :=
  0#5 ++ BitVec.ofBool s.iFlag ++ BitVec.ofBool s.pinEn ++ BitVec.ofBool s.grpEn

/-- What a read of STAT returns: `{0b000, PGM_BUSY, IN, PEND, S, T}` (R37). -/
def statByte (s : State) : Byte :=
  0#3 ++ BitVec.ofBool s.pgmBusy ++ BitVec.ofBool s.inLine ++ BitVec.ofBool s.pend ++ BitVec.ofBool s.sLine ++
    BitVec.ofBool s.tFlag

/-- `BUSY = 1 or PGM_BUSY = 1`: the controller accepts no write (R121) and WAITRDY holds (R148). -/
def nvmcBusy (s : State) : Bool := s.busy || s.pgmBusy

/-- The interrupt request IRQ (R161). -/
def irq (s : State) : Bool := decide (s.ctx = .main) && s.iFlag && s.grpEn && s.pinEn && s.pend

end Sys2Proof.Machine
end

