-- ==== Sys2Proof/Machine/Operands.lean ====
section
/-! DEFINITION. The operand forms of CNT7: the working-register operand (R28, R74) and the NVM address register seen as
two byte registers (R22, R51, R80). -/

namespace Sys2Proof.Machine

/-- `w[r]` (R14, R28): the byte in a working register, or `none` where it is unwritten. -/
def readWorking (r : WReg) (s : State) : Option Byte :=
  match r with
  | .cur => s.cur
  | .nxt => s.nxt

/-- `w[r] <- v` (R14). -/
def writeWorking (r : WReg) (v : Byte) (s : State) : State :=
  { s with
    cur := if r = .cur then some v else s.cur
    nxt := if r = .nxt then some v else s.nxt }

/-- `a[NVM_ADDR_BITS-1:0]`: the bits at or above `NVM_ADDR_BITS` do not exist (R22, R80). -/
def narrowAddr (p : Params) (a : Word) : Word := BitVec.ofNat 16 (a.toNat % 2 ^ p.nvmAddrBits)

/-- The value of NVADR: its `NVM_ADDR_BITS` bits, zero-extended (R22). -/
def nvAddr (s : State) : Word := narrowAddr s.params s.nvadr

/-- The value of LADR (R25), likewise. -/
def commitAddr (s : State) : Word := narrowAddr s.params s.ladr

/-- A write of NVADRL (R80, R122). -/
def setAddrLow (v : Byte) (s : State) : State :=
  { s with nvadr := narrowAddr s.params (hiByte (nvAddr s) ++ v) }

/-- A write of NVADRH (R80, R123). -/
def setAddrHigh (v : Byte) (s : State) : State :=
  { s with nvadr := narrowAddr s.params (v ++ loByte (nvAddr s)) }

end Sys2Proof.Machine
end

