-- ==== Sys2Proof/Machine/Ops.lean ====
section
/-! DEFINITION. The operations the meanings share: the NVM byte array in its canonical form (R21, R50), the
micro-program counter and the end of a MOP (R27, R128), raising a fault (R201, R203), the checks before a bus write
(R121, R135), the commit latch (R129), interrupt entry and return (R206, R207), refusal (R202) and RESET (R231). -/

namespace Sys2Proof.Machine

/-- A step's answer. -/
abbrev Answer := Host.Outcome State Fault Refusal

/-! ### NVM -/

/-- What an unlisted NVM address reads as: 0xFF, the value R11 calls typical and the test vectors give every cell of
NVM_INIT. DESIGN CHOICE, log entry 2. -/
def erasedByte : Byte := 0xFF#8

/-- `MemRead(a, 1)` (R14). -/
def memRead : Memory → Nat → Byte
  | [], _ => erasedByte
  | (b, v) :: rest, a => if b = a then v else memRead rest a

/-- The cells of a memory but for the one at `a`. -/
def memErase : Memory → Nat → Memory
  | [], _ => []
  | (b, v) :: rest, a => if b = a then memErase rest a else (b, v) :: memErase rest a

/-- A cell put before the first cell of a higher address. -/
def memInsert : Memory → Nat → Byte → Memory
  | [], a, v => [(a, v)]
  | (b, x) :: rest, a, v => if a < b then (a, v) :: (b, x) :: rest else (b, x) :: memInsert rest a v

/-- `MemWrite(a, 1, v)` (R14): writing what an unlisted address reads as leaves the address unlisted. -/
def memWrite (m : Memory) (a : Nat) (v : Byte) : Memory :=
  if v = erasedByte then memErase m a else memInsert (memErase m a) a v

/-- The canonical form: addresses strictly rising and below `size`, and no cell equal to what an unlisted address
reads as. `NVM_SIZE` is `2 ^ NVM_ADDR_BITS` (R9, R21). -/
def Memory.wf (size : Nat) (m : Memory) : Bool :=
  decide (m.Pairwise fun c d => c.1 < d.1) && m.all fun c => decide (c.1 < size) && decide (c.2 ≠ erasedByte)

/-- `NVM_SIZE` (R9). -/
def nvmSize (s : State) : Nat := 2 ^ s.params.nvmAddrBits

/-! ### The micro-program counter and the end of a MOP -/

/-- `upc`: the counter of the running context (R27, R162). -/
def upc (s : State) : Nat :=
  match s.ctx with
  | .main => s.mpc
  | .isr => s.hpc

/-- The program of the running context (R27, R162). -/
def runningProgram (s : State) : List Word :=
  match s.ctx with
  | .main => s.mainProgram
  | .isr => s.handlerProgram

/-- `upc <- upc + 1` (R27). -/
def advance (s : State) : State :=
  { s with
    mpc := if s.ctx = .main then s.mpc + 1 else s.mpc
    hpc := if s.ctx = .isr then s.hpc + 1 else s.hpc }

/-- The end of a MOP other than WE: `upc <- upc + 1` and `WE_ARMED <- 0` (R27, R128). -/
def retire (s : State) : State := { advance s with weArmed := false }

/-! ### Faults and refusal -/

/-- The state in which `raise Fault(kind)` leaves the machine: only FAULT is written (R201, R203). -/
def faulted (k : FaultKind) (w : Option Word) (r : Option WReg) (s : State) : State :=
  { s with fault := some { kind := k, ctx := s.ctx, upc := upc s, word := w, reg := r } }

/-- `raise Fault(kind)` by the MOP `i` (R14, R201): a next state, in which SEQ has no further step (R38). -/
def raise (k : FaultKind) (i : Instr) (r : Option WReg) (s : State) : Answer := .next (faulted k (encode i) r s)

/-- A fetch past the end of the running program: Fault(RUN_OFF_END), which records no word (R162, R201). -/
def runOffEnd (s : State) : State := faulted .runOffEnd none none s

/-- The fetch of a reserved word or an event word sets REFUSED (R86, R202). -/
def refuse (s : State) : State := { s with refused := true }

/-! ### The checks of the bus and the actions -/

/-- A write of NVCR, NVDAT, NVADRL or NVADRH by the MOP `i`: the busy check of R121, then the write `f`. -/
def nvmcWrite (i : Instr) (f : State → State) (s : State) : Answer :=
  if nvmcBusy s then raise .nvmcBusy i none s else .next (retire (f s))

/-- The MOP `i` with the byte of the working register `r`; Fault(UNWRITTEN) if it has none (R28, R201). -/
def withWorking (i : Instr) (r : WReg) (f : Byte → Answer) (s : State) : Answer :=
  match readWorking r s with
  | some v => f v
  | none => raise .unwritten i (some r) s

/-- A bus read into the working register `r`: nothing but the register changes (R120, section 7 of
41_nvm_controller.md). -/
def busRead (r : WReg) (v : Byte) (s : State) : Answer := .next (retire (writeWorking r v s))

/-! ### Strobes -/

/-- The effect of RE: `NVDAT <- MemRead(NVADR, 1)` (R126). -/
def readStrobe (s : State) : State := { s with nvdat := memRead s.nvm (nvAddr s).toNat }

/-- The effect of WS: accepted only with WE_ARMED = 1, else ignored (R129). -/
def writeStrobe (s : State) : State :=
  { s with
    ladr := if s.weArmed then nvAddr s else s.ladr
    ldat := if s.weArmed then s.nvdat else s.ldat
    busy := if s.weArmed then true else s.busy }

/-! ### The interrupt -/

/-- Interrupt entry (R206): PEND, I and WE_ARMED cleared, CTX = ISR, HPC = 0; MPC is kept, nothing else is saved. -/
def interruptEntry (s : State) : State :=
  { s with pend := false, iFlag := false, ctx := .isr, hpc := 0, weArmed := false }

/-- The return of RETI and of FLIPT (R207): I = 1, CTX = MAIN, WE_ARMED = 0; MPC and HPC are kept. -/
def interruptReturn (s : State) : State := { s with iFlag := true, ctx := .main, weArmed := false }

/-! ### Events -/

/-- A commit cut off by RESET: the cell at LADR takes a draw if BUSY = 1 (R233). -/
def cutCommit (s : State) : Memory :=
  if s.busy then memWrite s.nvm (commitAddr s).toNat (Config.drawByte s.draws) else s.nvm

/-- The effect of RESET (R231, R41, R233): every volatile element to its value of R41, the draws drawn afresh; IN,
PGM_BUSY, FAULT and REFUSED stay (R38). The draws are free values, log entry 4. -/
def resetEffect (s : State) : State :=
  { s with
    nvm := cutCommit s
    nvadr := narrowAddr s.params (Config.drawAddr s.draws)
    nvdat := Config.drawByte (s.draws + 1)
    weArmed := false
    busy := false
    ladr := narrowAddr s.params (Config.drawAddr (s.draws + 1))
    ldat := Config.drawByte (s.draws + 2)
    ctx := .main
    mpc := 0
    hpc := 0
    cur := none
    nxt := none
    iFlag := false
    savedI := false
    tFlag := false
    sLine := Config.drawBit s.draws
    disp := Config.drawByte (s.draws + 3)
    dir := Config.drawByte (s.draws + 4)
    grpEn := false
    pinEn := false
    pend := false
    draws := s.draws + 5 }

end Sys2Proof.Machine
end

