-- ==== Sys2Proof/Machine/Segenc.lean ====
section
/-! DEFINITION. SEGENC (R100 to R108): the two combinational functions, and the meaning of their two rows of the opcode
table, which are no MOPs (R85). Evaluating one changes no element of R20 (R100); its output is put in the model's own
field `segOut` (log entry 8). -/

namespace Sys2Proof.Machine

/-- `ENCODE(d)` (R101): the Segment Set of a digit, and of digit 0 for every byte above 9. -/
def encodeDigit (p : Params) (d : Byte) : Byte :=
  if h : d.toNat ≤ 9 then p.segLut[d.toNat]'(by omega) else p.segLut[0]

/-- `OUTPAT(s)` (R105): the active-low line-drive pattern of a Segment Set. -/
def outPattern (g : Byte) : Byte := ~~~g

/-- `DISPLAY(d) = OUTPAT(ENCODE(d))` (R106, R107): the one inversion is at the output. -/
def displayPattern (p : Params) (d : Byte) : Byte := outPattern (encodeDigit p d)

/-- ENCODE evaluated on its own (R100, R101). -/
def execSegEncode (d : Byte) (s : State) : Answer := .next { s with segOut := encodeDigit s.params d }

/-- OUTPAT evaluated on its own (R100, R105). -/
def execSegOutpat (g : Byte) (s : State) : Answer := .next { s with segOut := outPattern g }

end Sys2Proof.Machine
end

