-- ==== Sys2Proof/Machine/Action.lean ====
section
/-! DEFINITION. NOP (R163) and the sequencer actions (CLASS 0x4; R148, R170 to R176, R207). A hold leaves the state as
it is, so that the same MOP is tried again (R14, R148, R173; log entry 6). -/

namespace Sys2Proof.Machine

/-- `NOP` (R163). -/
def execNop (s : State) : Answer := .next (retire s)

/-- `WAITRDY` (R148): holds while a write or a programming operation is in flight. -/
def execWaitrdy (s : State) : Answer := if nvmcBusy s then .next s else .next (retire s)

/-- `(CUR + 1) mod 10` under `INC_MODE` (R8, R171). -/
def incDigit (m : IncMode) (v : Byte) : Byte :=
  match m with
  | .exact => BitVec.ofNat 8 ((v.toNat + 1) % 10)
  | .wrap8 => BitVec.ofNat 8 ((v.toNat + 1) % 256 % 10)

/-- `INC` (R171): reads CUR, writes NXT. -/
def execInc (s : State) : Answer :=
  withWorking .inc .cur (fun v => .next (retire (writeWorking .nxt (incDigit s.params.incMode v) s))) s

/-- `FLIPT` (R170): the first edge of a press returns, the second goes on. -/
def execFlipt (s : State) : Answer :=
  if s.ctx = .main then raise .context .flipt none s
  else if s.tFlag then .next (retire { s with tFlag := false })
  else .next (interruptReturn { s with tFlag := true })

/-- `TGLS` (R174). -/
def execTgls (s : State) : Answer := .next (retire { s with sLine := !s.sLine })

/-- `CLI_SAVE` (R175). -/
def execCliSave (s : State) : Answer := .next (retire { s with savedI := s.iFlag, iFlag := false })

/-- `I_RESTORE` (R176): Fault(NEST) where it would set I in the handler (R208). -/
def execIRestore (s : State) : Answer :=
  if s.ctx = .isr ∧ s.savedI = true then raise .nest .iRestore none s else .next (retire { s with iFlag := s.savedI })

/-- `RETI` (R207). -/
def execReti (s : State) : Answer :=
  if s.ctx = .main then raise .context .reti none s else .next (interruptReturn s)

/-- `IDLE` (R173): a hold in MAIN context, left only by interrupt entry or RESET. -/
def execIdle (s : State) : Answer := if s.ctx = .isr then raise .context .idle none s else .next s

/-- `ENCOUT r` (R172): drives `OUTPAT(ENCODE(w[r]))` to all eight lines. -/
def execEncout (r : WReg) (s : State) : Answer :=
  withWorking (.encout r) r (fun v => .next (retire { s with disp := displayPattern s.params v })) s

end Sys2Proof.Machine
end

