-- ==== Sys2Proof/Machine/BusRead.lean ====
section
/-! DEFINITION. The bus reads into a working register (CLASS 0x3; R140 to R147). Every read uses the values before the
step, is never checked for busy (R121) and, like every SEQ step, disarms WE (R128). -/

namespace Sys2Proof.Machine

/-- `RD r, NVCR` (R140). -/
def execRdNvcr (r : WReg) (s : State) : Answer := busRead r (nvcrByte s) s

/-- `RD r, NVDAT` (R141). -/
def execRdNvdat (r : WReg) (s : State) : Answer := busRead r s.nvdat s

/-- `RD r, NVADRL` (R142). -/
def execRdNvadrl (r : WReg) (s : State) : Answer := busRead r (loByte (nvAddr s)) s

/-- `RD r, NVADRH` (R143): bits at or above `NVM_ADDR_BITS` read as 0. -/
def execRdNvadrh (r : WReg) (s : State) : Answer := busRead r (hiByte (nvAddr s)) s

/-- `RD r, DISP` (R144). -/
def execRdDisp (r : WReg) (s : State) : Answer := busRead r s.disp s

/-- `RD r, ICR` (R145). -/
def execRdIcr (r : WReg) (s : State) : Answer := busRead r (icrByte s) s

/-- `RD r, STAT` (R146). -/
def execRdStat (r : WReg) (s : State) : Answer := busRead r (statByte s) s

/-- `RD r, DIR` (R147). -/
def execRdDir (r : WReg) (s : State) : Answer := busRead r s.dir s

end Sys2Proof.Machine
end

