-- ==== Sys2Proof/Machine/BusWrite.lean ====
section
/-! DEFINITION. The bus writes of an immediate (CLASS 0x1): the NVM controller's address, data and strobes (R122 to
R129) and the CSM's registers (R132 to R134). -/

namespace Sys2Proof.Machine

/-- `WR NVCR, CLR` (R125): only disarms WE. -/
def execWrNvcrClr (s : State) : Answer := nvmcWrite .wrNvcrClr (fun t => t) s

/-- `WR NVCR, RE`, the read strobe (R126). -/
def execWrNvcrRe (s : State) : Answer := nvmcWrite .wrNvcrRe readStrobe s

/-- `WR NVCR, WS`, the write strobe (R129). -/
def execWrNvcrWs (s : State) : Answer := nvmcWrite .wrNvcrWs writeStrobe s

/-- `WR NVCR, WE`, the write enable (R127): the one MOP that leaves WE_ARMED = 1 (R128). -/
def execWrNvcrWe (s : State) : Answer :=
  if nvmcBusy s then raise .nvmcBusy .wrNvcrWe none s else .next { advance s with weArmed := true }

/-- `WR NVDAT, imm8` (R124). -/
def execWrNvdat (imm : Byte) (s : State) : Answer := nvmcWrite (.wrNvdat imm) (fun t => { t with nvdat := imm }) s

/-- `WR NVADRL, imm8` (R122). -/
def execWrNvadrl (imm : Byte) (s : State) : Answer := nvmcWrite (.wrNvadrl imm) (setAddrLow imm) s

/-- `WR NVADRH, imm8` (R123). -/
def execWrNvadrh (imm : Byte) (s : State) : Answer := nvmcWrite (.wrNvadrh imm) (setAddrHigh imm) s

/-- `WR DISP, imm8` (R132): the lines are driven unchanged, without OUTPAT. -/
def execWrDisp (imm : Byte) (s : State) : Answer := .next (retire { s with disp := imm })

/-- `WR DIR, imm8` (R133). -/
def execWrDir (imm : Byte) (s : State) : Answer := .next (retire { s with dir := imm })

/-- `WR ICR, imm3` (R134): the enables and I, or Fault(NEST) for I = 1 in the handler (R208). -/
def execWrIcr (imm : Byte) (s : State) : Answer :=
  if s.ctx = .isr ∧ imm.getLsbD 2 = true then raise .nest (.wrIcr imm) none s
  else .next (retire { s with grpEn := imm.getLsbD 0, pinEn := imm.getLsbD 1, iFlag := imm.getLsbD 2 })

end Sys2Proof.Machine
end

