-- ==== Sys2Proof/Machine/BusWriteReg.lean ====
section
/-! DEFINITION. The bus writes from a working register (CLASS 0x2; R135 to R139): the check for an unwritten register
comes before the busy check (R203). -/

namespace Sys2Proof.Machine

/-- `WRR NVDAT, r` (R135). -/
def execWrrNvdat (r : WReg) (s : State) : Answer :=
  withWorking (.wrrNvdat r) r (fun v => nvmcWrite (.wrrNvdat r) (fun t => { t with nvdat := v }) s) s

/-- `WRR NVADRL, r` (R136). -/
def execWrrNvadrl (r : WReg) (s : State) : Answer :=
  withWorking (.wrrNvadrl r) r (fun v => nvmcWrite (.wrrNvadrl r) (setAddrLow v) s) s

/-- `WRR NVADRH, r` (R137). -/
def execWrrNvadrh (r : WReg) (s : State) : Answer :=
  withWorking (.wrrNvadrh r) r (fun v => nvmcWrite (.wrrNvadrh r) (setAddrHigh v) s) s

/-- `WRR DISP, r` (R138): no OUTPAT is applied. -/
def execWrrDisp (r : WReg) (s : State) : Answer :=
  withWorking (.wrrDisp r) r (fun v => .next (retire { s with disp := v })) s

/-- `WRR DIR, r` (R139). -/
def execWrrDir (r : WReg) (s : State) : Answer :=
  withWorking (.wrrDir r) r (fun v => .next (retire { s with dir := v })) s

end Sys2Proof.Machine
end

