-- ==== Sys2Proof/Machine/Event.lean ====
section
/-! DEFINITION. The environment events (CLASS 0x8; R84): EDGE (R160), COMMIT (R131), PGMSET (R149), PGMCLR (R150) and
RESET (R231). They are delivered at ENV's turns and act in every state, stopped ones included (R160, R231). -/

namespace Sys2Proof.Machine

/-- `@EDGE` (R160): inverts IN, and is latched in PEND only while both enables are 1. -/
def execEvEdge (s : State) : Answer :=
  .next { s with inLine := !s.inLine, pend := s.pend || (s.grpEn && s.pinEn) }

/-- `@COMMIT` (R131): enabled only if BUSY = 1; where it is not enabled there is no transition (log entry 6). -/
def execEvCommit (s : State) : Answer :=
  if s.busy then .next { s with nvm := memWrite s.nvm (commitAddr s).toNat s.ldat, busy := false } else .next s

/-- `@PGMSET` (R149). -/
def execEvPgmset (s : State) : Answer := .next { s with pgmBusy := true }

/-- `@PGMCLR` (R150). -/
def execEvPgmclr (s : State) : Answer := .next { s with pgmBusy := false }

/-- `@RESET` (R231). -/
def execEvReset (s : State) : Answer := .next (resetEffect s)

end Sys2Proof.Machine
end

