-- ==== Sys2Proof/Machine/Dispatch.lean ====
section
/-! DEFINITION. One arm per constructor of `Instr`, in the order of spec/opcode_table.json, each one direct call of its
meaning. -/

namespace Sys2Proof.Machine

def exec (i : Instr) (s : State) : Host.Outcome State Fault Refusal :=
  match i with
  | .nop => Sys2Proof.Machine.execNop s
  | .wrNvcrClr => Sys2Proof.Machine.execWrNvcrClr s
  | .wrNvcrRe => Sys2Proof.Machine.execWrNvcrRe s
  | .wrNvcrWs => Sys2Proof.Machine.execWrNvcrWs s
  | .wrNvcrWe => Sys2Proof.Machine.execWrNvcrWe s
  | .wrNvdat imm => Sys2Proof.Machine.execWrNvdat imm s
  | .wrNvadrl imm => Sys2Proof.Machine.execWrNvadrl imm s
  | .wrNvadrh imm => Sys2Proof.Machine.execWrNvadrh imm s
  | .wrDisp imm => Sys2Proof.Machine.execWrDisp imm s
  | .wrDir imm => Sys2Proof.Machine.execWrDir imm s
  | .wrIcr imm => Sys2Proof.Machine.execWrIcr imm s
  | .wrrNvdat r => Sys2Proof.Machine.execWrrNvdat r s
  | .wrrNvadrl r => Sys2Proof.Machine.execWrrNvadrl r s
  | .wrrNvadrh r => Sys2Proof.Machine.execWrrNvadrh r s
  | .wrrDisp r => Sys2Proof.Machine.execWrrDisp r s
  | .wrrDir r => Sys2Proof.Machine.execWrrDir r s
  | .rdNvcr r => Sys2Proof.Machine.execRdNvcr r s
  | .rdNvdat r => Sys2Proof.Machine.execRdNvdat r s
  | .rdNvadrl r => Sys2Proof.Machine.execRdNvadrl r s
  | .rdNvadrh r => Sys2Proof.Machine.execRdNvadrh r s
  | .rdDisp r => Sys2Proof.Machine.execRdDisp r s
  | .rdIcr r => Sys2Proof.Machine.execRdIcr r s
  | .rdStat r => Sys2Proof.Machine.execRdStat r s
  | .rdDir r => Sys2Proof.Machine.execRdDir r s
  | .waitrdy => Sys2Proof.Machine.execWaitrdy s
  | .inc => Sys2Proof.Machine.execInc s
  | .flipt => Sys2Proof.Machine.execFlipt s
  | .tgls => Sys2Proof.Machine.execTgls s
  | .cliSave => Sys2Proof.Machine.execCliSave s
  | .iRestore => Sys2Proof.Machine.execIRestore s
  | .reti => Sys2Proof.Machine.execReti s
  | .idle => Sys2Proof.Machine.execIdle s
  | .encout r => Sys2Proof.Machine.execEncout r s
  | .evEdge => Sys2Proof.Machine.execEvEdge s
  | .evCommit => Sys2Proof.Machine.execEvCommit s
  | .evPgmset => Sys2Proof.Machine.execEvPgmset s
  | .evPgmclr => Sys2Proof.Machine.execEvPgmclr s
  | .evReset => Sys2Proof.Machine.execEvReset s
  | .segEncode d => Sys2Proof.Machine.execSegEncode d s
  | .segOutpat g => Sys2Proof.Machine.execSegOutpat g s

end Sys2Proof.Machine
end

