-- ==== Sys2Proof/Machine/Sequencer.lean ====
section
/-! DEFINITION. The sequencer's step (R162) and whose turn it is (R17). `step` (Machine/Step.lean) only calls
`runTurn`. -/

namespace Sys2Proof.Machine

/-- The word at the running context's counter, if the program reaches that far (R27, R162). -/
def fetchWord (s : State) : Option Word := (runningProgram s)[upc s]?

/-- The SEQ step after the fetch of `w`: execute a MOP, refuse a reserved word or an event word (R162, R202). -/
def runWord (w : Word) (s : State) : Answer :=
  match decode w with
  | .mop i => exec i s
  | .event _ => .next (refuse s)
  | .reserved _ => .next (refuse s)

/-- The SEQ step of a machine that has not stopped: interrupt entry is checked before every fetch (R162). -/
def runSequencer (s : State) : Answer :=
  if irq s then .next (interruptEntry s)
  else
    match fetchWord s with
    | none => .next (runOffEnd s)
    | some w => runWord w s

/-- One SEQ step (R162, R209): a stopped state has none, and says why (log entry 7). -/
def seqStep (s : State) : Answer :=
  match s.fault with
  | some r => .fault (.stopped r)
  | none => if s.refused then .refused .stoppedRefused else runSequencer s

/-- One step of the agent whose turn it is (R17): an environment event is delivered whole; where no turn is listed it
is SEQ's (log entry 5). -/
def runTurn (s : State) : Answer :=
  match s.turns with
  | [] => seqStep s
  | .seq :: rest => seqStep { s with turns := rest }
  | .env e :: rest => exec (eventInstr e) { s with turns := rest }

/-- A program with the word `w` at index `n`, lengthened by NOP words where it is too short. -/
def placeWord : List Word → Nat → Word → List Word
  | [], 0, w => [w]
  | [], n + 1, w => 0x0000#16 :: placeWord [] n w
  | _ :: rest, 0, w => w :: rest
  | x :: rest, n + 1, w => x :: placeWord rest n w

/-- The word `w` where the running context fetches next, in a machine that has not stopped, with the turn SEQ's and
no interrupt request in its way (log entry 9). -/
def placeMop (w : Word) (s : State) : State :=
  { s with
    mainProgram := if s.ctx = .main then placeWord s.mainProgram s.mpc w else s.mainProgram
    handlerProgram := if s.ctx = .isr then placeWord s.handlerProgram s.hpc w else s.handlerProgram
    turns := .seq :: s.turns
    pend := s.pend && !irq s
    fault := none
    refused := false }

/-- The word `w` where the machine takes its next step from: an event word as ENV's next turn, any other word in the
running program. -/
def placeNext (w : Word) (s : State) : State :=
  match decode w with
  | .event e => { s with turns := .env e :: s.turns }
  | .mop _ => placeMop w s
  | .reserved _ => placeMop w s

end Sys2Proof.Machine
end

