-- ==== Sys2Proof/Machine/Step.lean ====
section
/-! DEFINITION. The one step of the machine, and the placing of an instruction where the step takes it from. -/

namespace Sys2Proof.Machine

/-- One step of CNT7: the step of the agent whose turn it is (R17, R162; `runTurn`). -/
def step (s : State) : Host.Outcome State Fault Refusal := runTurn s

/-- The state with the word whose low `nbits` bits are those of `w` placed so that the next step runs it: a MOP in the
running micro-program, an event word as the environment's next turn (log entry 9). -/
def State.withFetchWord (s : State) (nbits w : Nat) : State := placeNext (BitVec.ofNat 16 (w % 2 ^ nbits)) s

end Sys2Proof.Machine
end

