-- ==== Sys2Proof/Safety.lean ====
section
/-! DEFINITION. What claims about CNT7 are stated with: the stopped, holding and resting states (R38, R153, R162,
R248), the launch state and the named premises of R236, and an infinite run of the two agents (R17), which the
premises about progress speak of. No premise is assumed by default (R236). -/

namespace Sys2Proof.Machine

/-- FAULT set or REFUSED = 1: no SEQ step ever again (R38, R162). -/
def stopped (s : State) : Bool := s.fault.isSome || s.refused

/-- The MOP at the running context's counter, if there is one. -/
def currentMop (s : State) : Option Instr :=
  match fetchWord s with
  | none => none
  | some w =>
    match decode w with
    | .mop i => some i
    | .event _ => none
    | .reserved _ => none

/-- SEQ is at an IDLE of the main context (R173). -/
def atIdle (s : State) : Bool := decide (s.ctx = .main) && decide (currentMop s = some .idle)

/-- SEQ holds at WAITRDY: the state in which, if nothing lifts the hold, the machine hangs (R148, R153). -/
def holdsAtWaitrdy (s : State) : Bool := !irq s && decide (currentMop s = some .waitrdy) && nvmcBusy s

/-- SEQ holds at IDLE: no request, nothing to do (R173). -/
def holdsAtIdle (s : State) : Bool := !irq s && atIdle s

/-- The SEQ step is enabled: not stopped, and not holding (R14, R15, R162). -/
def seqEnabled (s : State) : Bool := !stopped s && !holdsAtWaitrdy s && !holdsAtIdle s

/-- At rest (R248). -/
def atRest (s : State) : Bool :=
  !stopped s && decide (s.ctx = .main) && holdsAtIdle s && (!s.pend || !irq s) && !s.busy

/-- The two micro-programs are the fixed ones (R190, R191). -/
def fixedPrograms (s : State) : Bool :=
  decide (s.mainProgram = bootRom s.params) && decide (s.handlerProgram = handlerRom s.params)

/-- `CLEAN_LAUNCH` (R236): the values RESET gives (R41), with FAULT empty and REFUSED = 0. What R41 leaves a draw or
external is unconstrained. -/
def cleanLaunch (s : State) : Bool :=
  !s.weArmed && !s.busy && decide (s.ctx = .main) && decide (s.mpc = 0) && decide (s.hpc = 0) &&
    decide (s.cur = none) && decide (s.nxt = none) && !s.iFlag && !s.savedI && !s.tFlag && !s.grpEn && !s.pinEn &&
    !s.pend && decide (s.fault = none) && !s.refused

/-- The byte in the Persisted Counter (R10, R55). -/
def slotByte (s : State) : Byte := memRead s.nvm (narrowAddr s.params s.params.slotAddr).toNat

/-- `SLOT_VALUE c` (R236). -/
def slotValue (c : Byte) (s : State) : Prop := slotByte s = c

/-- An infinite run: state `n` takes the turn `n` and becomes state `n + 1` (R17). A turn of a stopped SEQ is no step,
so no run has one. -/
def isRun (st : Nat → State) (turn : Nat → Turn) : Prop :=
  ∀ n, step { st n with turns := [turn n] } = .next (st (n + 1))

/-- `NO_PGM` (R236, R209): PGMSET comes only while CTX = MAIN and SEQ is at IDLE. -/
def noPgm (st : Nat → State) (turn : Nat → Turn) : Prop := ∀ n, turn n = .env .pgmset → atIdle (st n) = true

/-- `COMMIT_EVENTUALLY` (R130, R236). A COMMIT is a step only with BUSY = 1 (R131), so a turn of it at BUSY = 0, such as
one after RESET has cut the write off, is none. -/
def commitEventually (st : Nat → State) (turn : Nat → Turn) : Prop :=
  ∀ n, (st n).busy = true → ∃ m, n ≤ m ∧ (st m).busy = true ∧ turn m = .env .commit

/-- `SEPARATED_EDGES` (R236, R244). -/
def separatedEdges (st : Nat → State) (turn : Nat → Turn) : Prop :=
  ∀ n, turn n = .env .edge → (st n).pend = false

/-- `SEQ_FAIR` (R236): a SEQ step that stays enabled is eventually taken. -/
def seqFair (st : Nat → State) (turn : Nat → Turn) : Prop :=
  ∀ n, (∀ m, n ≤ m → seqEnabled (st m) = true) → ∃ m, n ≤ m ∧ turn m = .seq

end Sys2Proof.Machine
end

