-- ==== Sys2Proof/Certificates/Slice0/Obligations.lean ====
section
/-! DEFINITION. The statements for the provers. They come from the numbered rules of spec/: the first part transcribes
the rules' own words into small definitions (the end of a MOP, a fault, the busy condition, the reserved words), the
second states the encodings, the third what each instruction does as an equation for the whole next state, which is
also its frame, the fourth the rules about the whole machine, and the last the invariants and the fixed programs. -/

namespace Sys2Proof.Claims

open Sys2Proof.Machine

/-! ### The rules' words -/

/-- The end of a MOP: `upc <- upc + 1` for the running context's counter, and `WE_ARMED <- 0` (R27, R128). -/
def ends (s : State) : State :=
  { s with
    weArmed := false
    mpc := if s.ctx = .main then s.mpc + 1 else s.mpc
    hpc := if s.ctx = .isr then s.hpc + 1 else s.hpc }

/-- The running context's counter (R27). -/
def counter (s : State) : Nat := if s.ctx = .main then s.mpc else s.hpc

/-- The state with FAULT set and nothing else written (R201, R203). -/
def withFault (k : FaultKind) (w : Option Word) (r : Option WReg) (s : State) : State :=
  { s with fault := some { kind := k, ctx := s.ctx, upc := counter s, word := w, reg := r } }

/-- `BUSY = 0 and PGM_BUSY = 0`. -/
abbrev ready (s : State) : Prop := s.busy = false ∧ s.pgmBusy = false

/-- `BUSY = 1 or PGM_BUSY = 1`. -/
abbrev inFlight (s : State) : Prop := s.busy = true ∨ s.pgmBusy = true

/-- `NVM_SIZE` (R9). -/
def cells (s : State) : Nat := 2 ^ s.params.nvmAddrBits

/-- NVADR as a number below `NVM_SIZE` (R22). -/
def addr (s : State) : Nat := s.nvadr.toNat % cells s

/-- LADR as a number below `NVM_SIZE` (R25). -/
def latchAddr (s : State) : Nat := s.ladr.toNat % cells s

/-- `w[r]` (R28). -/
def working (r : WReg) (s : State) : Option Byte :=
  match r with
  | .cur => s.cur
  | .nxt => s.nxt

/-- `w[r] <- v` (R28). -/
def setWorking (r : WReg) (v : Byte) (s : State) : State :=
  match r with
  | .cur => { s with cur := some v }
  | .nxt => { s with nxt := some v }

/-- A byte given by its value. -/
def byte (n : Nat) : Byte := BitVec.ofNat 8 n

/-- `(v + 1) mod 10` under INC_MODE (R171). -/
def nextDigit (p : Params) (v : Byte) : Byte :=
  if p.incMode = .exact then byte ((v.toNat + 1) % 10) else byte ((v.toNat + 1) % 256 % 10)

/-- ENCODE (R101). -/
def glyph (p : Params) (d : Byte) : Byte := p.segLut.toList.getD (if d.toNat ≤ 9 then d.toNat else 0) 0#8

/-- DISPLAY: OUTPAT of ENCODE (R105 to R107). -/
def display (p : Params) (d : Byte) : Byte := 0xFF#8 - glyph p d

/-- It is SEQ's turn in `s`, and `u` is `s` without that turn (R17; log entry 5). -/
def seqTurn (s u : State) : Prop :=
  (s.turns = [] ∧ u = s) ∨ (s.turns = .seq :: u.turns ∧ u = { s with turns := u.turns })

/-- IRQ (R161). -/
def request (s : State) : Prop :=
  s.ctx = .main ∧ s.iFlag = true ∧ s.grpEn = true ∧ s.pinEn = true ∧ s.pend = true

/-- The word SEQ fetches (R27). -/
def fetched (s : State) : Option Word := if s.ctx = .main then s.mainProgram[s.mpc]? else s.handlerProgram[s.hpc]?

/-- The sequencer's words CLASS, SEL and DATA as numbers (R72). -/
def cls (w : Word) : Nat := w.toNat / 4096
/-- R72 -/
def sel (w : Word) : Nat := w.toNat / 256 % 16
/-- R72 -/
def data (w : Word) : Nat := w.toNat % 256

/-- The twelve conditions of R86, in its order. -/
def reservedByRule (w : Word) : Prop :=
  (5 ≤ cls w ∧ cls w ≤ 7 ∨ 9 ≤ cls w) ∨
    (cls w = 0 ∧ w ≠ 0#16) ∨
    ((cls w = 1 ∨ cls w = 2 ∨ cls w = 3) ∧ 8 ≤ sel w) ∨
    (cls w = 1 ∧ sel w = 0 ∧ data w ≠ 0 ∧ data w ≠ 1 ∧ data w ≠ 2 ∧ data w ≠ 4) ∨
    (cls w = 1 ∧ sel w = 5 ∧ data w / 8 ≠ 0) ∨
    (cls w = 1 ∧ sel w = 6) ∨
    (cls w = 2 ∧ (sel w = 0 ∨ sel w = 5 ∨ sel w = 6)) ∨
    ((cls w = 2 ∨ cls w = 3) ∧ data w / 2 ≠ 0) ∨
    (cls w = 4 ∧ 9 ≤ sel w) ∨
    (cls w = 4 ∧ sel w ≠ 2 ∧ data w ≠ 0) ∨
    (cls w = 4 ∧ sel w = 2 ∧ data w / 2 ≠ 0) ∨
    (cls w = 8 ∧ (5 ≤ sel w ∨ data w ≠ 0))

/-- The word of a MOP with a working-register operand: DATA is 0 for CUR and 1 for NXT (R74). -/
def registerWord (base : Nat) (r : WReg) : Option Word := some (BitVec.ofNat 16 (base + if r = .cur then 0 else 1))

/-- `k` MOPs executed one after the other, stopping at the first answer that is no next state. -/
def execAll : List Instr → State → Answer
  | [], s => .next s
  | i :: rest, s =>
    match exec i s with
    | .next t => execAll rest t
    | .fault r => .fault r
    | .refused r => .refused r

end Sys2Proof.Claims

open Sys2Proof Sys2Proof.Machine Sys2Proof.Claims

/-! ### Encoding and decoding -/

/-- R87, R88: every well-formed instruction that has a word is what the decoder reads from that word. -/
def Obligations.EncodedInstructionDecodesBack : Prop :=
  ∀ (i : Instr) (w : Word), wellFormed i = true → encode i = some w → decodedInstr (decode w) = some i

/-- R87: the decoder answers only well-formed instructions, and an instruction it answers has the decoded word as its
word, so no two legal words have one meaning. -/
def Obligations.DecodedWordEncodesBack : Prop :=
  ∀ (w : Word) (i : Instr), decodedInstr (decode w) = some i → wellFormed i = true ∧ encode i = some w

/-- R86: the decoder refuses exactly the words of the twelve conditions, and a fetch of such a word or of an event
word sets REFUSED, after which SEQ takes no further step. That such a fetch leaves WE_ARMED as it was, with all the
rest, is the model's (log entry 12, DEDUCED). -/
def Obligations.ReservedWordsAreRefused : Prop :=
  (∀ w : Word, decodedInstr (decode w) = none ↔ reservedByRule w) ∧
    ∀ (s u : State) (w : Word), seqTurn s u → u.fault = none → u.refused = false → ¬ request u →
      fetched u = some w → (reservedByRule w ∨ cls w = 8) →
      step s = .next { u with refused := true } ∧
        ∀ v v' : State, v.refused = true → seqTurn v v' → ∀ t, step v ≠ .next t

/-- R73, R76, R79, R81, R82, R84: one word of every family of the opcode table, written out in its fields. -/
def Obligations.WordsOfEachFamilyDecode : Prop :=
  decode 0b0000000000000000#16 = .mop .nop ∧
    decode 0b0001000000000100#16 = .mop .wrNvcrWe ∧
    decode 0b0001001011110000#16 = .mop (.wrNvadrl 0xF0#8) ∧
    decode 0b0001010100000111#16 = .mop (.wrIcr 0x07#8) ∧
    decode 0b0010000100000001#16 = .mop (.wrrNvdat .nxt) ∧
    decode 0b0011011000000001#16 = .mop (.rdStat .nxt) ∧
    decode 0b0100001000000001#16 = .mop (.encout .nxt) ∧
    decode 0b0100011100000000#16 = .mop .reti ∧
    decode 0b1000000100000000#16 = .event .commit

/-! ### The instructions: encoding, effect with its frame, and where it faults -/

/-- R163, R174: NOP has no effect beyond the end of the MOP, and TGLS inverts S, each in both contexts. -/
def Obligations.NopAdvancesAndTglsInverts : Prop :=
  encode .nop = some 0x0000#16 ∧ encode .tgls = some 0x4400#16 ∧
    ∀ s : State, exec .nop s = .next (ends s) ∧ exec .tgls s = .next (ends { s with sLine := !s.sLine })

/-- R124: WR NVDAT stores its byte, any byte, or faults while a write or a programming operation is in flight. -/
def Obligations.WrNvdatStoresTheByte : Prop :=
  ∀ (v : Byte) (s : State),
    encode (.wrNvdat v) = some (BitVec.ofNat 16 (0x1100 + v.toNat)) ∧
      (ready s → exec (.wrNvdat v) s = .next (ends { s with nvdat := v })) ∧
      (inFlight s → exec (.wrNvdat v) s = .next (withFault .nvmcBusy (encode (.wrNvdat v)) none s))

/-- R122: WR NVADRL replaces NVADR[7:0], dropping bits at or above NVM_ADDR_BITS, or faults while busy. -/
def Obligations.WrNvadrlSetsTheLowByte : Prop :=
  ∀ (v : Byte) (s : State),
    encode (.wrNvadrl v) = some (BitVec.ofNat 16 (0x1200 + v.toNat)) ∧
      (ready s → exec (.wrNvadrl v) s =
        .next (ends { s with nvadr := BitVec.ofNat 16 ((addr s / 256 * 256 + v.toNat) % cells s) })) ∧
      (inFlight s → exec (.wrNvadrl v) s = .next (withFault .nvmcBusy (encode (.wrNvadrl v)) none s))

/-- R123: WR NVADRH replaces NVADR[15:8], dropping bits at or above NVM_ADDR_BITS, or faults while busy. -/
def Obligations.WrNvadrhSetsTheHighByte : Prop :=
  ∀ (v : Byte) (s : State),
    encode (.wrNvadrh v) = some (BitVec.ofNat 16 (0x1300 + v.toNat)) ∧
      (ready s → exec (.wrNvadrh v) s =
        .next (ends { s with nvadr := BitVec.ofNat 16 ((v.toNat * 256 + addr s % 256) % cells s) })) ∧
      (inFlight s → exec (.wrNvadrh v) s = .next (withFault .nvmcBusy (encode (.wrNvadrh v)) none s))

/-- R125, R127: WR NVCR, CLR only disarms WE, and does not cancel a commit; WR NVCR, WE arms WE, also when it is armed
already; both fault while a write or a programming operation is in flight. -/
def Obligations.ClrDisarmsAndWeArms : Prop :=
  encode .wrNvcrClr = some 0x1000#16 ∧ encode .wrNvcrWe = some 0x1004#16 ∧
    ∀ s : State,
      (ready s → exec .wrNvcrClr s = .next (ends s) ∧ exec .wrNvcrWe s = .next { ends s with weArmed := true }) ∧
      (inFlight s → exec .wrNvcrClr s = .next (withFault .nvmcBusy (some 0x1000#16) none s) ∧
        exec .wrNvcrWe s = .next (withFault .nvmcBusy (some 0x1004#16) none s))

/-- R126: the read strobe loads NVDAT from the NVM cell at NVADR in its own step, or faults while busy. -/
def Obligations.ReadStrobeLoadsTheCell : Prop :=
  encode .wrNvcrRe = some 0x1001#16 ∧
    ∀ s : State, (ready s → exec .wrNvcrRe s = .next (ends { s with nvdat := memRead s.nvm (addr s) })) ∧
      (inFlight s → exec .wrNvcrRe s = .next (withFault .nvmcBusy (some 0x1001#16) none s))

/-- R129: the write strobe latches NVADR and NVDAT and sets BUSY if WE is armed, is ignored if it is not, and faults
while busy; NVM is unchanged in every case. WE and WS in one write is no instruction. -/
def Obligations.WriteStrobeLatchesOrIsIgnored : Prop :=
  encode .wrNvcrWs = some 0x1002#16 ∧ decodedInstr (decode 0x1006#16) = none ∧
    ∀ s : State,
      (ready s → s.weArmed = true → exec .wrNvcrWs s =
        .next (ends { s with ladr := BitVec.ofNat 16 (addr s), ldat := s.nvdat, busy := true })) ∧
      (ready s → s.weArmed = false → exec .wrNvcrWs s = .next (ends s)) ∧
      (inFlight s → exec .wrNvcrWs s = .next (withFault .nvmcBusy (some 0x1002#16) none s))

/-- R132, R133: WR DISP and WR DIR store their byte unchanged, and never fault. -/
def Obligations.WrDispAndDirStoreTheByte : Prop :=
  ∀ (v : Byte) (s : State),
    encode (.wrDisp v) = some (BitVec.ofNat 16 (0x1400 + v.toNat)) ∧
      encode (.wrDir v) = some (BitVec.ofNat 16 (0x1700 + v.toNat)) ∧
      exec (.wrDisp v) s = .next (ends { s with disp := v }) ∧
      exec (.wrDir v) s = .next (ends { s with dir := v })

/-- R134: WR ICR writes GRP_EN, PIN_EN and I from bits 0, 1 and 2 and leaves PEND alone; I = 1 in ISR context faults.
An operand with bits 7:3 set is refused by the decoder (R86). -/
def Obligations.WrIcrSetsTheEnables : Prop :=
  ∀ (v : Byte) (s : State), v.toNat < 8 →
    decode (BitVec.ofNat 16 (0x1500 + v.toNat)) = .mop (.wrIcr v) ∧
      ((s.ctx = .main ∨ v.toNat < 4) → exec (.wrIcr v) s =
        .next (ends { s with
          grpEn := decide (v.toNat % 2 = 1), pinEn := decide (v.toNat / 2 % 2 = 1), iFlag := decide (4 ≤ v.toNat) })) ∧
      (s.ctx = .isr → 4 ≤ v.toNat → exec (.wrIcr v) s = .next (withFault .nest (encode (.wrIcr v)) none s))

/-- R135 to R137: WRR to NVDAT, NVADRL and NVADRH writes the working register's byte as the immediate form does; an
unwritten register faults before the busy check does. -/
def Obligations.WrrToTheControllerWritesTheRegister : Prop :=
  ∀ (r : WReg) (s : State),
    (encode (.wrrNvdat r) = registerWord 0x2100 r ∧ encode (.wrrNvadrl r) = registerWord 0x2200 r ∧
      encode (.wrrNvadrh r) = registerWord 0x2300 r) ∧
    (∀ v, working r s = some v → ready s →
      exec (.wrrNvdat r) s = .next (ends { s with nvdat := v }) ∧
        exec (.wrrNvadrl r) s =
          .next (ends { s with nvadr := BitVec.ofNat 16 ((addr s / 256 * 256 + v.toNat) % cells s) }) ∧
        exec (.wrrNvadrh r) s =
          .next (ends { s with nvadr := BitVec.ofNat 16 ((v.toNat * 256 + addr s % 256) % cells s) })) ∧
      ∀ i ∈ [Instr.wrrNvdat r, .wrrNvadrl r, .wrrNvadrh r],
        (working r s = none → exec i s = .next (withFault .unwritten (encode i) (some r) s)) ∧
          (working r s ≠ none → inFlight s → exec i s = .next (withFault .nvmcBusy (encode i) none s))

/-- R138, R139: WRR to DISP and DIR writes the working register's byte unchanged, busy or not; an unwritten register
faults. -/
def Obligations.WrrToTheCsmWritesTheRegister : Prop :=
  ∀ (r : WReg) (s : State),
    (encode (.wrrDisp r) = registerWord 0x2400 r ∧ encode (.wrrDir r) = registerWord 0x2700 r) ∧
    (∀ v, working r s = some v →
      exec (.wrrDisp r) s = .next (ends { s with disp := v }) ∧
        exec (.wrrDir r) s = .next (ends { s with dir := v })) ∧
      (working r s = none →
        exec (.wrrDisp r) s = .next (withFault .unwritten (encode (.wrrDisp r)) (some r) s) ∧
          exec (.wrrDir r) s = .next (withFault .unwritten (encode (.wrrDir r)) (some r) s))

/-- R140 to R147: every bus read puts the register's value before the step in the working register, clears WE_ARMED,
never faults and changes nothing else. -/
def Obligations.BusReadsReturnTheRegister : Prop :=
  ∀ (r : WReg) (s : State),
    ([Instr.rdNvcr r, .rdNvdat r, .rdNvadrl r, .rdNvadrh r, .rdDisp r, .rdIcr r, .rdStat r, .rdDir r].map encode =
      [0x3000, 0x3100, 0x3200, 0x3300, 0x3400, 0x3500, 0x3600, 0x3700].map fun b => registerWord b r) ∧
    exec (.rdNvcr r) s = .next (ends (setWorking r (byte (4 * s.weArmed.toNat + 2 * s.busy.toNat)) s)) ∧
      exec (.rdNvdat r) s = .next (ends (setWorking r s.nvdat s)) ∧
      exec (.rdNvadrl r) s = .next (ends (setWorking r (byte (addr s % 256)) s)) ∧
      exec (.rdNvadrh r) s = .next (ends (setWorking r (byte (addr s / 256 % 256)) s)) ∧
      exec (.rdDisp r) s = .next (ends (setWorking r s.disp s)) ∧
      exec (.rdIcr r) s =
        .next (ends (setWorking r (byte (4 * s.iFlag.toNat + 2 * s.pinEn.toNat + s.grpEn.toNat)) s)) ∧
      exec (.rdStat r) s =
        .next (ends (setWorking r (byte (16 * s.pgmBusy.toNat + 8 * s.inLine.toNat + 4 * s.pend.toNat +
          2 * s.sLine.toNat + s.tFlag.toNat)) s)) ∧
      exec (.rdDir r) s = .next (ends (setWorking r s.dir s))

/-- R148: WAITRDY holds while a write or a programming operation is in flight, and otherwise ends; only COMMIT, PGMCLR
and RESET lift the hold. That exec answers the unchanged state for a hold, which R128 says is no step, is the model's
choice (log entry 6). -/
def Obligations.WaitrdyHoldsWhileBusy : Prop :=
  encode .waitrdy = some 0x4000#16 ∧
    ∀ s : State, (inFlight s → exec .waitrdy s = .next s) ∧ (ready s → exec .waitrdy s = .next (ends s)) ∧
      ∀ (e : Event) (t : State), inFlight s → exec (eventInstr e) s = .next t → ready t →
        e = .commit ∨ e = .pgmclr ∨ e = .reset

/-- R171: INC writes (CUR + 1) mod 10 to NXT, over the naturals or over bytes as INC_MODE says; the result is 0 to 9; an
unwritten CUR faults. -/
def Obligations.IncAddsOneModuloTen : Prop :=
  encode .inc = some 0x4100#16 ∧
    ∀ s : State,
      (∀ v, s.cur = some v → exec .inc s = .next (ends { s with nxt := some (nextDigit s.params v) })) ∧
        (∀ v, (nextDigit s.params v).toNat ≤ 9) ∧
        (s.cur = none → exec .inc s = .next (withFault .unwritten (some 0x4100#16) (some .cur) s))

/-- R172: ENCOUT drives OUTPAT(ENCODE(w[r])) to the display; an unwritten register faults. -/
def Obligations.EncoutDrivesTheDisplay : Prop :=
  ∀ (r : WReg) (s : State),
    decode (if r = .cur then 0x4200#16 else 0x4201#16) = .mop (.encout r) ∧
      (∀ v, working r s = some v → exec (.encout r) s = .next (ends { s with disp := display s.params v })) ∧
      (working r s = none → exec (.encout r) s = .next (withFault .unwritten (encode (.encout r)) (some r) s))

/-- R170: FLIPT inverts T; if T becomes 1 the handler returns, else it goes on; in MAIN context it faults. Nothing else
but RESET writes T. -/
def Obligations.FliptFiltersTheEdges : Prop :=
  encode .flipt = some 0x4300#16 ∧
    ∀ s : State,
      (s.ctx = .isr → s.tFlag = false →
        exec .flipt s = .next { s with tFlag := true, iFlag := true, ctx := .main, weArmed := false }) ∧
      (s.ctx = .isr → s.tFlag = true →
        exec .flipt s = .next { s with tFlag := false, hpc := s.hpc + 1, weArmed := false }) ∧
      (s.ctx = .main → exec .flipt s = .next (withFault .context (some 0x4300#16) none s)) ∧
      ∀ (i : Instr) (t : State), i ≠ .flipt → i ≠ .evReset → exec i s = .next t → t.tFlag = s.tFlag

/-- R175, R176: CLI_SAVE saves I and clears it, and I_RESTORE restores I from SAVED_I; where that would set I in ISR
context it faults. -/
def Obligations.CriticalSectionSavesAndRestores : Prop :=
  encode .cliSave = some 0x4500#16 ∧ encode .iRestore = some 0x4600#16 ∧
    ∀ s : State,
      exec .cliSave s = .next (ends { s with savedI := s.iFlag, iFlag := false }) ∧
      ((s.ctx = .main ∨ s.savedI = false) → exec .iRestore s = .next (ends { s with iFlag := s.savedI })) ∧
      (s.ctx = .isr → s.savedI = true → exec .iRestore s = .next (withFault .nest (some 0x4600#16) none s))

/-- R207: RETI sets I, returns to MAIN at the unchanged MPC and leaves HPC alone; in MAIN context it faults. FLIPT's
return, from T = 0, does the same and sets T. -/
def Obligations.RetiReturnsToMain : Prop :=
  encode .reti = some 0x4700#16 ∧
    ∀ s : State,
      (s.ctx = .isr → exec .reti s = .next { s with iFlag := true, ctx := .main, weArmed := false }) ∧
      (s.ctx = .isr → s.tFlag = false →
        exec .flipt s = .next { s with iFlag := true, ctx := .main, weArmed := false, tFlag := true }) ∧
      (s.ctx = .main → exec .reti s = .next (withFault .context (some 0x4700#16) none s))

/-- R173: IDLE holds in MAIN context and faults in ISR context. That exec answers the unchanged state for a hold, which
R173 says is no step, is the model's choice (log entry 6). -/
def Obligations.IdleHoldsInMain : Prop :=
  encode .idle = some 0x4800#16 ∧
    ∀ s : State, (s.ctx = .main → exec .idle s = .next s) ∧
      (s.ctx = .isr → exec .idle s = .next (withFault .context (some 0x4800#16) none s))

/-- R160: EDGE inverts IN in every state and sets PEND only while both enables are 1. -/
def Obligations.EdgeIsLatchedWhileEnabled : Prop :=
  decode 0x8000#16 = .event .edge ∧ eventInstr .edge = .evEdge ∧
    ∀ s : State,
      (s.grpEn = true → s.pinEn = true →
        exec .evEdge s = .next { s with inLine := !s.inLine, pend := true }) ∧
      ((s.grpEn = false ∨ s.pinEn = false) → exec .evEdge s = .next { s with inLine := !s.inLine })

/-- R131: COMMIT writes LDAT to the cell at LADR and clears BUSY, leaving every other cell as it read before. -/
def Obligations.CommitWritesTheLatchedByte : Prop :=
  decode 0x8100#16 = .event .commit ∧ eventInstr .commit = .evCommit ∧
    ∀ s : State, s.busy = true → ∃ m, exec .evCommit s = .next { s with nvm := m, busy := false } ∧
      memRead m (latchAddr s) = s.ldat ∧ ∀ a, a ≠ latchAddr s → memRead m a = memRead s.nvm a

/-- The model's choice (log entry 6): a COMMIT with BUSY = 0, which R131 says is not enabled, leaves the state as it
is. -/
def Obligations.DisabledCommitChangesNothing : Prop := ∀ s : State, s.busy = false → exec .evCommit s = .next s

/-- R149, R150: PGMSET and PGMCLR set and clear PGM_BUSY in every state. -/
def Obligations.PgmEventsSetAndClear : Prop :=
  (decode 0x8200#16 = .event .pgmset ∧ decode 0x8300#16 = .event .pgmclr) ∧
    ∀ s : State, exec (eventInstr .pgmset) s = .next { s with pgmBusy := true } ∧
      exec (eventInstr .pgmclr) s = .next { s with pgmBusy := false }

/-- R231, R233: RESET, in every state, gives each volatile element the value R41 states, leaves IN, PGM_BUSY, FAULT and
REFUSED alone, and touches no cell of NVM but, with BUSY = 1, the one at LADR. What R41 leaves a draw is free. -/
def Obligations.ResetEventGivesTheResetValues : Prop :=
  decode 0x8400#16 = .event .reset ∧
    ∀ s : State, ∃ t : State, exec (eventInstr .reset) s = .next t ∧
      (t.weArmed = false ∧ t.busy = false ∧ t.ctx = .main ∧ t.mpc = 0 ∧ t.hpc = 0 ∧ t.cur = none ∧ t.nxt = none) ∧
      (t.iFlag = false ∧ t.savedI = false ∧ t.tFlag = false ∧ t.grpEn = false ∧ t.pinEn = false ∧ t.pend = false) ∧
      (t.inLine = s.inLine ∧ t.pgmBusy = s.pgmBusy ∧ t.fault = s.fault ∧ t.refused = s.refused) ∧
      (s.busy = false → t.nvm = s.nvm) ∧
      (∀ a, a ≠ latchAddr s → memRead t.nvm a = memRead s.nvm a) ∧
      (t.nvadr.toNat < cells s ∧ t.ladr.toNat < cells s) ∧
      (t.params = s.params ∧ t.mainProgram = s.mainProgram ∧ t.handlerProgram = s.handlerProgram ∧
        t.turns = s.turns ∧ t.segOut = s.segOut)

/-- R101: ENCODE answers the glyph of a digit 0 to 9 and the digit-0 glyph for every other byte, and changes nothing. The
answer stands in the model's own field `segOut` (log entry 8). -/
def Obligations.EncodeClampsToDigitZero : Prop :=
  ∀ (d : Byte) (s : State),
    exec (.segEncode d) s = .next { s with segOut := glyph s.params d } ∧
      (9 < d.toNat → exec (.segEncode d) s = .next { s with segOut := glyph s.params 0#8 })

/-- R105: OUTPAT answers 0xFF - s, is its own inverse, and changes nothing (log entry 8 for `segOut`). -/
def Obligations.OutpatComplements : Prop :=
  ∀ (g : Byte) (s : State),
    exec (.segOutpat g) s = .next { s with segOut := 0xFF#8 - g } ∧ outPattern (outPattern g) = g

/-- R107: the display patterns of the default table, for both values of CMPL_DOT and every byte. -/
def Obligations.DefaultDisplayPatterns : Prop :=
  ∀ (p : Params) (d : Byte), p.segLut = defaultSegLut p.cmplDot →
    displayPattern p d =
      (if p.cmplDot then [0x40#8, 0xF9#8, 0x24#8, 0x30#8, 0x19#8, 0x12#8, 0x02#8, 0xF8#8, 0x00#8, 0x10#8]
        else [0xC0#8, 0xF9#8, 0xA4#8, 0xB0#8, 0x99#8, 0x92#8, 0x82#8, 0xF8#8, 0x80#8, 0x90#8]).getD
          (if d.toNat ≤ 9 then d.toNat else 0) 0#8

/-- R108: for every table that meets R6, every byte above 9 shows as digit 0, OUTPAT is an involution, and the ten
display patterns are pairwise distinct. -/
def Obligations.SegencLawsForEveryTable : Prop :=
  ∀ p : Params, glyphsDistinct p = true →
    (∀ d : Byte, 10 ≤ d.toNat → encodeDigit p d = encodeDigit p 0#8) ∧
      (∀ g h : Byte, outPattern (outPattern g) = g ∧ (outPattern g = outPattern h → g = h)) ∧
      ∀ d e : Byte, d.toNat ≤ 9 → e.toNat ≤ 9 → displayPattern p d = displayPattern p e → d = e

/-! ### The step -/

/-- R162: at SEQ's turn, in a machine that has not stopped and with no interrupt request, the step is the execution of
the MOP the fetched word decodes to. The turn taken is the model's own (log entry 5). -/
def Obligations.StepRunsTheDecodedMop : Prop :=
  ∀ (s u : State) (w : Word) (i : Instr), seqTurn s u → u.fault = none → u.refused = false → ¬ request u →
    fetched u = some w → decode w = .mop i → step s = exec i u

/-- R17: at ENV's turn the step delivers the event, in every state, stopped ones included (log entry 5). -/
def Obligations.StepDeliversTheEvent : Prop :=
  ∀ (s u : State) (e : Event), s.turns = .env e :: u.turns → u = { s with turns := u.turns } →
    step s = exec (eventInstr e) u

/-- R206, R161, R162: with IRQ true the SEQ step of a machine that has not stopped is interrupt entry, before any fetch,
and no other step leads from MAIN context into ISR context. -/
def Obligations.InterruptEntryExactlyOnRequest : Prop :=
  (∀ s u : State, seqTurn s u → u.fault = none → u.refused = false → request u →
    step s = .next { u with pend := false, iFlag := false, ctx := .isr, hpc := 0, weArmed := false }) ∧
    ∀ s t : State, step s = .next t → s.ctx = .main → t.ctx = .isr →
      request s ∧ t.hpc = 0 ∧ t.mpc = s.mpc ∧ t.iFlag = false ∧ t.pend = false

/-- R162, R201: a fetch at or past the end of the running program sets Fault(RUN_OFF_END), which records no word. That it
leaves WE_ARMED as it was, with all the rest, is the model's (log entry 12, DEDUCED). -/
def Obligations.FetchPastTheEndFaults : Prop :=
  ∀ s u : State, seqTurn s u → u.fault = none → u.refused = false → ¬ request u →
    (if u.ctx = .main then u.mainProgram.length ≤ u.mpc else u.handlerProgram.length ≤ u.hpc) →
    step s = .next (withFault .runOffEnd none none u)

/-! ### Rules about the whole machine -/

/-- R38: FAULT is empty and REFUSED 0 at launch; no step clears or changes them once set, and a stopped machine has
no SEQ step. -/
def Obligations.StoppedForGood : Prop :=
  (State.reset.fault = none ∧ State.reset.refused = false) ∧
    (∀ s t : State, step s = .next t →
      (∀ r, s.fault = some r → t.fault = some r) ∧ (s.refused = true → t.refused = true)) ∧
    ∀ s u : State, seqTurn s u → (s.fault ≠ none ∨ s.refused = true) → ∀ t, step s ≠ .next t

/-- R21: NVM changes only by COMMIT and RESET, and only at the cell at LADR while BUSY = 1. -/
def Obligations.OnlyCommitAndResetWriteNvm : Prop :=
  ∀ (i : Instr) (s t : State), exec i s = .next t →
    (i ≠ .evCommit → i ≠ .evReset → t.nvm = s.nvm) ∧
      (s.busy = false → t.nvm = s.nvm) ∧
      ∀ a, a ≠ latchAddr s → memRead t.nvm a = memRead s.nvm a

/-- R22 to R25: which instructions write the NVM controller's registers. -/
def Obligations.WritersOfTheControllerRegisters : Prop :=
  ∀ (i : Instr) (s t : State), exec i s = .next t → i ≠ .evReset →
    ((∀ v, i ≠ .wrNvadrl v ∧ i ≠ .wrNvadrh v) → (∀ r, i ≠ .wrrNvadrl r ∧ i ≠ .wrrNvadrh r) → t.nvadr = s.nvadr) ∧
      ((∀ v, i ≠ .wrNvdat v) → (∀ r, i ≠ .wrrNvdat r) → i ≠ .wrNvcrRe → t.nvdat = s.nvdat) ∧
      (i ≠ .wrNvcrWs → t.ladr = s.ladr ∧ t.ldat = s.ldat) ∧
      (i ≠ .wrNvcrWs → i ≠ .evCommit → t.busy = s.busy) ∧
      (i ≠ .evPgmset → i ≠ .evPgmclr → t.pgmBusy = s.pgmBusy)

/-- R28, R30 to R33: which instructions write CUR, NXT, T, S, DISP and DIR. -/
def Obligations.WritersOfTheCsmDatapath : Prop :=
  ∀ (i : Instr) (s t : State), exec i s = .next t → i ≠ .evReset →
    (i ≠ .flipt → t.tFlag = s.tFlag) ∧
      (i ≠ .tgls → t.sLine = s.sLine) ∧
      ((∀ v, i ≠ .wrDisp v) → (∀ r, i ≠ .wrrDisp r ∧ i ≠ .encout r) → t.disp = s.disp) ∧
      ((∀ v, i ≠ .wrDir v) → (∀ r, i ≠ .wrrDir r) → t.dir = s.dir) ∧
      (∀ r, (i ≠ .rdNvcr r ∧ i ≠ .rdNvdat r ∧ i ≠ .rdNvadrl r ∧ i ≠ .rdNvadrh r ∧ i ≠ .rdDisp r ∧ i ≠ .rdIcr r ∧
          i ≠ .rdStat r ∧ i ≠ .rdDir r ∧ (i = .inc → r ≠ .nxt)) → working r t = working r s)

/-- R33: the contents of DIR have no effect: an instruction other than RD DIR gives, from another DIR, the same next state
but for DIR. -/
def Obligations.DirHasNoEffect : Prop :=
  ∀ (i : Instr) (s t : State) (v : Byte), (∀ r, i ≠ .rdDir r) → exec i s = .next t →
    ∃ d, exec i { s with dir := v } = .next { t with dir := d }

/-- R29, R34 to R36: which instructions write I, SAVED_I, the enables, PEND and IN. No instruction but RESET clears
PEND; that is interrupt entry's part of the step. -/
def Obligations.WritersOfTheInterruptState : Prop :=
  ∀ (i : Instr) (s t : State), exec i s = .next t → i ≠ .evReset →
    ((∀ v, i ≠ .wrIcr v) → i ≠ .flipt → i ≠ .reti → i ≠ .cliSave → i ≠ .iRestore → t.iFlag = s.iFlag) ∧
      (i ≠ .cliSave → t.savedI = s.savedI) ∧
      ((∀ v, i ≠ .wrIcr v) → t.grpEn = s.grpEn ∧ t.pinEn = s.pinEn) ∧
      (i ≠ .evEdge → t.pend = s.pend ∧ t.inLine = s.inLine) ∧
      (s.pend = true → t.pend = true) ∧
      (i ≠ .flipt → i ≠ .reti → t.ctx = s.ctx) ∧
      (t.ctx = .isr → t.mpc = s.mpc) ∧ (s.ctx = .main → t.hpc = s.hpc)

/-- R61: no step writes a micro-program or a parameter. -/
def Obligations.ProgramsAndParametersAreFixed : Prop :=
  ∀ s t : State, step s = .next t →
    t.params = s.params ∧ t.mainProgram = s.mainProgram ∧ t.handlerProgram = s.handlerProgram

/-- R128: a MOP that neither holds nor faults leaves WE_ARMED = 1 exactly if it is the write enable; interrupt entry and
RESET clear it, and every other event leaves it as it was. The last two clauses are the model's (log entry 12,
DEDUCED): a faulting MOP, a fetch past the end and a refused fetch leave WE_ARMED as it was. -/
def Obligations.WriteEnableLastsOneStep : Prop :=
  (∀ (s t : State) (i : Instr) (w : Word), decode w = .mop i → exec i s = .next t → s.fault = none →
    t.fault = none → t ≠ s → t.weArmed = decide (i = .wrNvcrWe)) ∧
    (∀ (e : Event) (s t : State), exec (eventInstr e) s = .next t →
      t.weArmed = (if e = .reset then false else s.weArmed)) ∧
    (∀ s u t : State, seqTurn s u → u.fault = none → u.refused = false → request u → step s = .next t →
      t.weArmed = false) ∧
    (∀ (i : Instr) (s t : State), exec i s = .next t → s.fault = none → t.fault ≠ none → t.weArmed = s.weArmed) ∧
    ∀ s u : State, seqTurn s u → u.fault = none → u.refused = false → ¬ request u →
      (∀ w i, fetched u = some w → decode w ≠ .mop i) → ∃ t, step s = .next t ∧ t.weArmed = u.weArmed

/-- R121: every bus write of NVCR, NVDAT, NVADRL or NVADRH (CLASS 0x1 or 0x2 with SEL 0 to 3) faults and changes
nothing else while BUSY or PGM_BUSY is 1, unless its working register is unwritten, which faults first (R203); no
bus read is ever checked. -/
def Obligations.BusyControllerTakesNoWrite : Prop :=
  ∀ (w : Word) (i : Instr) (s : State), decode w = .mop i →
    ((cls w = 1 ∨ cls w = 2) → sel w < 4 → inFlight s →
      (∀ r, cls w = 2 → data w = (if r = WReg.cur then 0 else 1) → working r s ≠ none) →
      exec i s = .next (withFault .nvmcBusy (some w) none s)) ∧
      (cls w = 3 → ∃ t, exec i s = .next t ∧ t.fault = s.fault)

/-- R201, R203: an instruction that raises a fault writes only FAULT, which records the kind, CTX, the counter and the
instruction's word. -/
def Obligations.FaultingMopWritesOnlyFault : Prop :=
  ∀ (i : Instr) (s t : State), exec i s = .next t → s.fault = none → t.fault ≠ none →
    ∃ k r, t = withFault k (encode i) r s ∧ k ≠ .runOffEnd ∧ (k = .unwritten ↔ r ≠ none)

/-- The model's choice (log entries 6 and 7): each instruction answers a next state in every state. R15 makes a hold and a
fault outcomes other than the next state; the model answers a hold, and a COMMIT that is not enabled, with the unchanged
state (log entry 6), and a fault with the state that has FAULT set (log entry 7). No instruction sets REFUSED. -/
def Obligations.EveryInstructionAnswersANextState : Prop :=
  ∀ (i : Instr) (s : State), ∃ t, exec i s = .next t ∧ t.refused = s.refused

/-- R232: after RESET, by the event from any state and in the model's reset state, SEQ starts in MAIN context at MPC 0
with I and both enables 0 and T at its first-edge state. -/
def Obligations.ResetStartsMaskedInMain : Prop :=
  ∀ t : State, (t = State.reset ∨ ∃ s, exec .evReset s = .next t) →
    t.ctx = .main ∧ t.mpc = 0 ∧ t.iFlag = false ∧ t.grpEn = false ∧ t.pinEn = false ∧ t.tFlag = false ∧ ¬ request t

/-! ### Invariants -/

/-- The state's invariant: NVM in its canonical form and within NVM_SIZE (R21), NVADR and LADR within NVM_ADDR_BITS
(R22, R25), and I = 0 throughout ISR context (R208). -/
def Sys2Proof.Claims.StateOk (s : State) : Prop :=
  Memory.wf (cells s) s.nvm = true ∧ s.nvadr.toNat < cells s ∧ s.ladr.toNat < cells s ∧
    (s.ctx = .isr → s.iFlag = false)

/-- R21, R22, R25, R208: every step of either agent keeps the state's invariant. -/
def Obligations.EveryStepKeepsTheStateInvariant : Prop :=
  ∀ s t : State, StateOk s → step s = .next t → StateOk t

/-- The reset state meets the state's invariant. Its NVM, NVADR, LADR and NVM_ADDR_BITS are the model's choices (log entries
1, 2 and 3). -/
def Obligations.ResetMeetsTheStateInvariant : Prop := StateOk State.reset

/-- The invariant of the fixed programs: the programs are those of R190 and R191; nothing is refused and the only fault is
NVMC_BUSY; SAVED_I = 0; in MAIN context I = 1 only at the IDLE of MPC 12, before it no write is in flight, and CUR is
written from MPC 7 on; the handler runs over that IDLE with I = 0, within its 20 words, with CUR and NXT written
where it reads them and no write in flight between a WAITRDY and its strobes. -/
def Sys2Proof.Claims.FixedOk (s : State) : Prop :=
  s.mainProgram = bootRom s.params ∧ s.handlerProgram = handlerRom s.params ∧ s.refused = false ∧
    (∀ r, s.fault = some r → r.kind = .nvmcBusy) ∧ s.savedI = false ∧
    (s.ctx = .main → s.mpc ≤ 12 ∧ (7 ≤ s.mpc → s.cur ≠ none) ∧
      (s.mpc < 12 → s.iFlag = false ∧ s.busy = false)) ∧
    (s.ctx = .isr → s.mpc = 12 ∧ s.hpc ≤ 19 ∧ s.iFlag = false ∧ s.cur ≠ none ∧ (10 ≤ s.hpc → s.nxt ≠ none) ∧
      (4 ≤ s.hpc → s.hpc ≤ 6 → s.busy = false) ∧ (12 ≤ s.hpc → s.hpc ≤ 16 → s.busy = false))

/-- R201, R208, R235: every step of either agent keeps the invariant of the fixed programs, whatever the environment
does. -/
def Obligations.EveryStepKeepsTheFixedProgramsInvariant : Prop :=
  ∀ s t : State, FixedOk s → step s = .next t → FixedOk t

/-- R236, R191: a clean launch with the fixed programs meets their invariant, whatever the draws. -/
def Obligations.CleanLaunchMeetsTheFixedProgramsInvariant : Prop :=
  (∀ s : State, cleanLaunch s = true → fixedPrograms s = true → FixedOk s) ∧
    cleanLaunch State.reset = true ∧ fixedPrograms State.reset = true

/-- R201: under that invariant no step raises a fault while no programming operation is in flight. -/
def Obligations.FixedProgramsFaultOnlyUnderProgramming : Prop :=
  ∀ s t : State, FixedOk s → s.pgmBusy = false → s.fault = none → step s = .next t →
    t.fault = none ∧ t.refused = false

/-! ### The accessors and the fixed programs as whole sequences -/

/-- R58: a byte latched by WE and WS and committed is what a read strobe at the same address loads. -/
def Obligations.CommittedByteReadsBack : Prop :=
  ∀ (v : Byte) (s : State), ready s →
    ∃ t, execAll [.wrNvdat v, .wrNvcrWe, .wrNvcrWs, .evCommit, .wrNvdat 0x00#8, .wrNvcrRe, .rdNvdat .cur] s = .next t ∧
      t.cur = some v ∧ t.nvdat = v ∧ t.fault = s.fault ∧ memRead t.nvm (addr s) = v ∧
      ∀ a, a ≠ addr s → memRead t.nvm a = memRead s.nvm a

/-- R151: NV_READ, undisturbed and with nothing in flight, leaves the slot's byte in NVDAT and the working register,
NVADR at the slot, I restored and NVM unchanged. -/
def Obligations.NvReadReturnsTheSlot : Prop :=
  ∀ (r : WReg) (s : State), ready s → (s.ctx = .isr → s.iFlag = false) →
    ∃ t, execAll (nvRead s.params r) s = .next t ∧
      addr t = s.params.slotAddr.toNat % cells s ∧
      t.nvdat = memRead s.nvm (addr t) ∧ working r t = some t.nvdat ∧
      t.iFlag = s.iFlag ∧ t.savedI = s.iFlag ∧ t.weArmed = false ∧ t.nvm = s.nvm ∧ t.fault = s.fault ∧
      counter t = counter s + 7

/-- R152: NV_WRITE, undisturbed and with nothing in flight, leaves the register's byte latched for the slot with BUSY
set, I restored and NVM still unchanged. -/
def Obligations.NvWriteLatchesTheSlot : Prop :=
  ∀ (r : WReg) (v : Byte) (s : State), ready s → working r s = some v → (s.ctx = .isr → s.iFlag = false) →
    ∃ t, execAll (nvWrite s.params r) s = .next t ∧
      addr t = s.params.slotAddr.toNat % cells s ∧ latchAddr t = addr t ∧ t.nvdat = v ∧ t.ldat = v ∧
      t.busy = true ∧ t.iFlag = s.iFlag ∧ t.weArmed = false ∧ t.nvm = s.nvm ∧ t.fault = s.fault ∧
      counter t = counter s + 8

/-- R192: from a clean launch with the fixed programs and no programming operation, twelve SEQ steps bring BOOT_ROM to its
IDLE with the stored byte on the display and the interrupt armed, NVM unchanged. With no turns listed every step is SEQ's, the
model's choice (log entry 5). -/
def Obligations.BootShowsTheStoredDigit : Prop :=
  ∀ s : State, cleanLaunch s = true → fixedPrograms s = true → s.turns = [] → s.pgmBusy = false →
    ∃ t, Host.Core.run core 12 s = .next t ∧ t.mpc = 12 ∧ t.ctx = .main ∧ t.dir = s.params.dirValue ∧
      t.cur = some (slotByte s) ∧ t.disp = display s.params (slotByte s) ∧
      t.iFlag = true ∧ t.grpEn = true ∧ t.pinEn = true ∧ t.tFlag = false ∧ t.nvm = s.nvm ∧ t.sLine = s.sLine ∧
      atRest t = true

/-- R193: a handler run that finds T = 0 is entry and one FLIPT: T = 1, PEND and WE_ARMED cleared, HPC = 0, and nothing
else changes. With no turns listed every step is SEQ's, the model's choice (log entry 5). -/
def Obligations.FirstEdgeOnlyFlipsT : Prop :=
  ∀ s : State, s.turns = [] → s.fault = none → s.refused = false → request s → s.tFlag = false →
    s.handlerProgram = handlerRom s.params →
    Host.Core.run core 2 s = .next { s with tFlag := true, pend := false, hpc := 0, weArmed := false }

/-- R194: a handler run that finds T = 1, undisturbed and with nothing in flight, is entry and the twenty steps of
HANDLER_ROM: one toggle of S, CUR the stored byte, NXT the next digit, latched for the slot and shown. With no turns listed every
step is SEQ's, the model's choice (log entry 5). -/
def Obligations.SecondEdgeCountsOnePress : Prop :=
  ∀ s : State, s.turns = [] → s.fault = none → s.refused = false → request s → s.tFlag = true → ready s →
    s.handlerProgram = handlerRom s.params →
    ∃ t, Host.Core.run core 21 s = .next t ∧ t.ctx = .main ∧ t.mpc = s.mpc ∧ t.hpc = 19 ∧ t.iFlag = true ∧
      t.tFlag = false ∧ t.sLine = (!s.sLine) ∧ t.pend = false ∧
      t.cur = some (slotByte s) ∧ t.nxt = some (nextDigit s.params (slotByte s)) ∧
      t.disp = display s.params (nextDigit s.params (slotByte s)) ∧
      addr t = s.params.slotAddr.toNat % cells s ∧ latchAddr t = addr t ∧
      t.nvdat = nextDigit s.params (slotByte s) ∧ t.ldat = t.nvdat ∧ t.busy = true ∧ t.nvm = s.nvm ∧
      t.fault = none ∧ t.refused = false

/-- R195: two edges, each arriving while PEND = 0, their handler runs and one commit make exactly one increment of the
Persisted Counter and one toggle of S, from any armed MAIN-context state with T = 0 and nothing in flight. The order of the steps stands in
the model's own list of turns (log entry 5). -/
def Obligations.TwoEdgesMakeOnePress : Prop :=
  ∀ s : State, s.turns = [.env .edge, .seq, .seq, .env .edge] ++ List.replicate 21 .seq ++ [.env .commit] →
    s.fault = none → s.refused = false → s.ctx = .main → s.iFlag = true → s.grpEn = true → s.pinEn = true →
    s.pend = false → s.tFlag = false → ready s → s.handlerProgram = handlerRom s.params →
    ∃ t, Host.Core.run core 26 s = .next t ∧ slotByte t = nextDigit s.params (slotByte s) ∧
      t.sLine = (!s.sLine) ∧ t.disp = display s.params (slotByte t) ∧ t.tFlag = false ∧ t.pend = false ∧
      t.busy = false ∧ t.ctx = .main ∧ t.mpc = s.mpc ∧ t.inLine = s.inLine ∧
      ∀ a, a ≠ s.params.slotAddr.toNat % cells s → memRead t.nvm a = memRead s.nvm a
end

