-- ==== Sys2Proof/Laws/Decode.lean ====
section
/-! SUPPORT. The fields of a word built from its fields, and the decoding of the two words of the fixed
micro-programs that depend on a parameter. -/

namespace Sys2Proof

/-- The bits of a word built from its fields: DATA below bit 8, SEL below bit 12, CLASS above. -/
theorem getLsbD_mopWord (c s : BitVec 4) (d : Byte) (i : Nat) :
    (mopWord c s d).getLsbD i =
      if i < 8 then d.getLsbD i else if i - 8 < 4 then s.getLsbD (i - 8) else c.getLsbD (i - 8 - 4) := by
  have h1 : (mopWord c s d).getLsbD i = if i < 8 then d.getLsbD i else (c ++ s).getLsbD (i - 8) :=
    BitVec.getLsbD_append
  have h2 : (c ++ s).getLsbD (i - 8) = if i - 8 < 4 then s.getLsbD (i - 8) else c.getLsbD (i - 8 - 4) :=
    BitVec.getLsbD_append
  rw [h1, h2]

@[simp] theorem classField_mopWord (c s : BitVec 4) (d : Byte) : classField (mopWord c s d) = c := by
  apply BitVec.eq_of_getLsbD_eq
  intro i hi
  have h1 : ¬ 12 + i < 8 := by omega
  have h2 : ¬ 12 + i - 8 < 4 := by omega
  have h3 : 12 + i - 8 - 4 = i := by omega
  rw [classField, BitVec.getLsbD_extractLsb', getLsbD_mopWord, if_neg h1, if_neg h2, h3]
  simp [hi]

@[simp] theorem selField_mopWord (c s : BitVec 4) (d : Byte) : selField (mopWord c s d) = s := by
  apply BitVec.eq_of_getLsbD_eq
  intro i hi
  have h1 : ¬ 8 + i < 8 := by omega
  have h2 : 8 + i - 8 = i := by omega
  rw [selField, BitVec.getLsbD_extractLsb', getLsbD_mopWord, if_neg h1, h2, if_pos hi]
  simp [hi]

@[simp] theorem dataField_mopWord (c s : BitVec 4) (d : Byte) : dataField (mopWord c s d) = d := by
  apply BitVec.eq_of_getLsbD_eq
  intro i hi
  have h1 : 0 + i < 8 := by omega
  rw [dataField, BitVec.getLsbD_extractLsb', getLsbD_mopWord, if_pos h1]
  simp [hi]

/-- A word is its three fields. -/
theorem mopWord_fields (w : Word) : mopWord (classField w) (selField w) (dataField w) = w := by
  apply BitVec.eq_of_getLsbD_eq
  intro i hi
  simp only [getLsbD_mopWord, classField, selField, dataField, BitVec.getLsbD_extractLsb']
  by_cases h8 : i < 8
  · simp [h8]
  · by_cases h12 : i < 12
    · have h1 : i - 8 < 4 := by omega
      have h2 : 8 + (i - 8) = i := by omega
      simp [h8, h1, h2]
    · have h1 : ¬ (i - 8 < 4) := by omega
      have h2 : i - 8 - 4 < 4 := by omega
      have h3 : 12 + (i - 8 - 4) = i := by omega
      simp [h8, h1, h2, h3]

/-- The word with DATA `v` and a given upper byte, as a word built from its fields. -/
theorem wordOf_eq_mopWord (c s : BitVec 4) (v : Byte) : Machine.wordOf (c ++ s) v = mopWord c s v := rfl

theorem decode_wordOf_nvadrl (v : Byte) : decode (Machine.wordOf 0x12#8 v) = .mop (.wrNvadrl v) := by
  rw [show (0x12#8 : Byte) = 0x1#4 ++ 0x2#4 from rfl, wordOf_eq_mopWord]
  simp [decode, decodeWr]

theorem decode_wordOf_nvadrh (v : Byte) : decode (Machine.wordOf 0x13#8 v) = .mop (.wrNvadrh v) := by
  rw [show (0x13#8 : Byte) = 0x1#4 ++ 0x3#4 from rfl, wordOf_eq_mopWord]
  simp [decode, decodeWr]

theorem decode_wordOf_dir (v : Byte) : decode (Machine.wordOf 0x17#8 v) = .mop (.wrDir v) := by
  rw [show (0x17#8 : Byte) = 0x1#4 ++ 0x7#4 from rfl, wordOf_eq_mopWord]
  simp [decode, decodeWr]

@[simp] theorem registerOperand_registerData (r : WReg) : registerOperand (registerData r) = some r := by
  cases r <;> decide

end Sys2Proof
end

