-- ==== Sys2Proof/Laws/State.lean ====
section
/-! SUPPORT. One lemma per field of State for each shared update of the state: what the update writes and that it
leaves the field alone. Later proofs rewrite with these instead of unfolding a record update. -/

namespace Sys2Proof.Machine

/-! ### advance (R27) -/

@[simp] theorem advance_nvm (s : State) : (advance s).nvm = s.nvm := rfl
@[simp] theorem advance_nvadr (s : State) : (advance s).nvadr = s.nvadr := rfl
@[simp] theorem advance_nvdat (s : State) : (advance s).nvdat = s.nvdat := rfl
@[simp] theorem advance_weArmed (s : State) : (advance s).weArmed = s.weArmed := rfl
@[simp] theorem advance_busy (s : State) : (advance s).busy = s.busy := rfl
@[simp] theorem advance_ladr (s : State) : (advance s).ladr = s.ladr := rfl
@[simp] theorem advance_ldat (s : State) : (advance s).ldat = s.ldat := rfl
@[simp] theorem advance_pgmBusy (s : State) : (advance s).pgmBusy = s.pgmBusy := rfl
@[simp] theorem advance_ctx (s : State) : (advance s).ctx = s.ctx := rfl
@[simp] theorem advance_mpc (s : State) : (advance s).mpc = if s.ctx = .main then s.mpc + 1 else s.mpc := rfl
@[simp] theorem advance_hpc (s : State) : (advance s).hpc = if s.ctx = .isr then s.hpc + 1 else s.hpc := rfl
@[simp] theorem advance_cur (s : State) : (advance s).cur = s.cur := rfl
@[simp] theorem advance_nxt (s : State) : (advance s).nxt = s.nxt := rfl
@[simp] theorem advance_iFlag (s : State) : (advance s).iFlag = s.iFlag := rfl
@[simp] theorem advance_savedI (s : State) : (advance s).savedI = s.savedI := rfl
@[simp] theorem advance_tFlag (s : State) : (advance s).tFlag = s.tFlag := rfl
@[simp] theorem advance_sLine (s : State) : (advance s).sLine = s.sLine := rfl
@[simp] theorem advance_disp (s : State) : (advance s).disp = s.disp := rfl
@[simp] theorem advance_dir (s : State) : (advance s).dir = s.dir := rfl
@[simp] theorem advance_grpEn (s : State) : (advance s).grpEn = s.grpEn := rfl
@[simp] theorem advance_pinEn (s : State) : (advance s).pinEn = s.pinEn := rfl
@[simp] theorem advance_pend (s : State) : (advance s).pend = s.pend := rfl
@[simp] theorem advance_inLine (s : State) : (advance s).inLine = s.inLine := rfl
@[simp] theorem advance_fault (s : State) : (advance s).fault = s.fault := rfl
@[simp] theorem advance_refused (s : State) : (advance s).refused = s.refused := rfl
@[simp] theorem advance_params (s : State) : (advance s).params = s.params := rfl
@[simp] theorem advance_mainProgram (s : State) : (advance s).mainProgram = s.mainProgram := rfl
@[simp] theorem advance_handlerProgram (s : State) : (advance s).handlerProgram = s.handlerProgram := rfl
@[simp] theorem advance_turns (s : State) : (advance s).turns = s.turns := rfl
@[simp] theorem advance_draws (s : State) : (advance s).draws = s.draws := rfl
@[simp] theorem advance_segOut (s : State) : (advance s).segOut = s.segOut := rfl

/-! ### retire (R27, R128) -/

@[simp] theorem retire_nvm (s : State) : (retire s).nvm = s.nvm := rfl
@[simp] theorem retire_nvadr (s : State) : (retire s).nvadr = s.nvadr := rfl
@[simp] theorem retire_nvdat (s : State) : (retire s).nvdat = s.nvdat := rfl
@[simp] theorem retire_weArmed (s : State) : (retire s).weArmed = false := rfl
@[simp] theorem retire_busy (s : State) : (retire s).busy = s.busy := rfl
@[simp] theorem retire_ladr (s : State) : (retire s).ladr = s.ladr := rfl
@[simp] theorem retire_ldat (s : State) : (retire s).ldat = s.ldat := rfl
@[simp] theorem retire_pgmBusy (s : State) : (retire s).pgmBusy = s.pgmBusy := rfl
@[simp] theorem retire_ctx (s : State) : (retire s).ctx = s.ctx := rfl
@[simp] theorem retire_mpc (s : State) : (retire s).mpc = if s.ctx = .main then s.mpc + 1 else s.mpc := rfl
@[simp] theorem retire_hpc (s : State) : (retire s).hpc = if s.ctx = .isr then s.hpc + 1 else s.hpc := rfl
@[simp] theorem retire_cur (s : State) : (retire s).cur = s.cur := rfl
@[simp] theorem retire_nxt (s : State) : (retire s).nxt = s.nxt := rfl
@[simp] theorem retire_iFlag (s : State) : (retire s).iFlag = s.iFlag := rfl
@[simp] theorem retire_savedI (s : State) : (retire s).savedI = s.savedI := rfl
@[simp] theorem retire_tFlag (s : State) : (retire s).tFlag = s.tFlag := rfl
@[simp] theorem retire_sLine (s : State) : (retire s).sLine = s.sLine := rfl
@[simp] theorem retire_disp (s : State) : (retire s).disp = s.disp := rfl
@[simp] theorem retire_dir (s : State) : (retire s).dir = s.dir := rfl
@[simp] theorem retire_grpEn (s : State) : (retire s).grpEn = s.grpEn := rfl
@[simp] theorem retire_pinEn (s : State) : (retire s).pinEn = s.pinEn := rfl
@[simp] theorem retire_pend (s : State) : (retire s).pend = s.pend := rfl
@[simp] theorem retire_inLine (s : State) : (retire s).inLine = s.inLine := rfl
@[simp] theorem retire_fault (s : State) : (retire s).fault = s.fault := rfl
@[simp] theorem retire_refused (s : State) : (retire s).refused = s.refused := rfl
@[simp] theorem retire_params (s : State) : (retire s).params = s.params := rfl
@[simp] theorem retire_mainProgram (s : State) : (retire s).mainProgram = s.mainProgram := rfl
@[simp] theorem retire_handlerProgram (s : State) : (retire s).handlerProgram = s.handlerProgram := rfl
@[simp] theorem retire_turns (s : State) : (retire s).turns = s.turns := rfl
@[simp] theorem retire_draws (s : State) : (retire s).draws = s.draws := rfl
@[simp] theorem retire_segOut (s : State) : (retire s).segOut = s.segOut := rfl

/-! ### writeWorking (R28) -/

@[simp] theorem writeWorking_nvm (r : WReg) (v : Byte) (s : State) : (writeWorking r v s).nvm = s.nvm := rfl
@[simp] theorem writeWorking_nvadr (r : WReg) (v : Byte) (s : State) : (writeWorking r v s).nvadr = s.nvadr := rfl
@[simp] theorem writeWorking_nvdat (r : WReg) (v : Byte) (s : State) : (writeWorking r v s).nvdat = s.nvdat := rfl
@[simp] theorem writeWorking_weArmed (r : WReg) (v : Byte) (s : State) : (writeWorking r v s).weArmed = s.weArmed := rfl
@[simp] theorem writeWorking_busy (r : WReg) (v : Byte) (s : State) : (writeWorking r v s).busy = s.busy := rfl
@[simp] theorem writeWorking_ladr (r : WReg) (v : Byte) (s : State) : (writeWorking r v s).ladr = s.ladr := rfl
@[simp] theorem writeWorking_ldat (r : WReg) (v : Byte) (s : State) : (writeWorking r v s).ldat = s.ldat := rfl
@[simp] theorem writeWorking_pgmBusy (r : WReg) (v : Byte) (s : State) : (writeWorking r v s).pgmBusy = s.pgmBusy := rfl
@[simp] theorem writeWorking_ctx (r : WReg) (v : Byte) (s : State) : (writeWorking r v s).ctx = s.ctx := rfl
@[simp] theorem writeWorking_mpc (r : WReg) (v : Byte) (s : State) : (writeWorking r v s).mpc = s.mpc := rfl
@[simp] theorem writeWorking_hpc (r : WReg) (v : Byte) (s : State) : (writeWorking r v s).hpc = s.hpc := rfl
@[simp] theorem writeWorking_cur (r : WReg) (v : Byte) (s : State) :
    (writeWorking r v s).cur = if r = .cur then some v else s.cur := rfl
@[simp] theorem writeWorking_nxt (r : WReg) (v : Byte) (s : State) :
    (writeWorking r v s).nxt = if r = .nxt then some v else s.nxt := rfl
@[simp] theorem writeWorking_iFlag (r : WReg) (v : Byte) (s : State) : (writeWorking r v s).iFlag = s.iFlag := rfl
@[simp] theorem writeWorking_savedI (r : WReg) (v : Byte) (s : State) : (writeWorking r v s).savedI = s.savedI := rfl
@[simp] theorem writeWorking_tFlag (r : WReg) (v : Byte) (s : State) : (writeWorking r v s).tFlag = s.tFlag := rfl
@[simp] theorem writeWorking_sLine (r : WReg) (v : Byte) (s : State) : (writeWorking r v s).sLine = s.sLine := rfl
@[simp] theorem writeWorking_disp (r : WReg) (v : Byte) (s : State) : (writeWorking r v s).disp = s.disp := rfl
@[simp] theorem writeWorking_dir (r : WReg) (v : Byte) (s : State) : (writeWorking r v s).dir = s.dir := rfl
@[simp] theorem writeWorking_grpEn (r : WReg) (v : Byte) (s : State) : (writeWorking r v s).grpEn = s.grpEn := rfl
@[simp] theorem writeWorking_pinEn (r : WReg) (v : Byte) (s : State) : (writeWorking r v s).pinEn = s.pinEn := rfl
@[simp] theorem writeWorking_pend (r : WReg) (v : Byte) (s : State) : (writeWorking r v s).pend = s.pend := rfl
@[simp] theorem writeWorking_inLine (r : WReg) (v : Byte) (s : State) : (writeWorking r v s).inLine = s.inLine := rfl
@[simp] theorem writeWorking_fault (r : WReg) (v : Byte) (s : State) : (writeWorking r v s).fault = s.fault := rfl
@[simp] theorem writeWorking_refused (r : WReg) (v : Byte) (s : State) : (writeWorking r v s).refused = s.refused := rfl
@[simp] theorem writeWorking_params (r : WReg) (v : Byte) (s : State) : (writeWorking r v s).params = s.params := rfl
@[simp] theorem writeWorking_mainProgram (r : WReg) (v : Byte) (s : State) :
    (writeWorking r v s).mainProgram = s.mainProgram := rfl
@[simp] theorem writeWorking_handlerProgram (r : WReg) (v : Byte) (s : State) :
    (writeWorking r v s).handlerProgram = s.handlerProgram := rfl
@[simp] theorem writeWorking_turns (r : WReg) (v : Byte) (s : State) : (writeWorking r v s).turns = s.turns := rfl
@[simp] theorem writeWorking_draws (r : WReg) (v : Byte) (s : State) : (writeWorking r v s).draws = s.draws := rfl
@[simp] theorem writeWorking_segOut (r : WReg) (v : Byte) (s : State) : (writeWorking r v s).segOut = s.segOut := rfl

/-! ### setAddrLow (R80) -/

@[simp] theorem setAddrLow_nvm (v : Byte) (s : State) : (setAddrLow v s).nvm = s.nvm := rfl
@[simp] theorem setAddrLow_nvadr (v : Byte) (s : State) :
    (setAddrLow v s).nvadr = narrowAddr s.params (hiByte (nvAddr s) ++ v) := rfl
@[simp] theorem setAddrLow_nvdat (v : Byte) (s : State) : (setAddrLow v s).nvdat = s.nvdat := rfl
@[simp] theorem setAddrLow_weArmed (v : Byte) (s : State) : (setAddrLow v s).weArmed = s.weArmed := rfl
@[simp] theorem setAddrLow_busy (v : Byte) (s : State) : (setAddrLow v s).busy = s.busy := rfl
@[simp] theorem setAddrLow_ladr (v : Byte) (s : State) : (setAddrLow v s).ladr = s.ladr := rfl
@[simp] theorem setAddrLow_ldat (v : Byte) (s : State) : (setAddrLow v s).ldat = s.ldat := rfl
@[simp] theorem setAddrLow_pgmBusy (v : Byte) (s : State) : (setAddrLow v s).pgmBusy = s.pgmBusy := rfl
@[simp] theorem setAddrLow_ctx (v : Byte) (s : State) : (setAddrLow v s).ctx = s.ctx := rfl
@[simp] theorem setAddrLow_mpc (v : Byte) (s : State) : (setAddrLow v s).mpc = s.mpc := rfl
@[simp] theorem setAddrLow_hpc (v : Byte) (s : State) : (setAddrLow v s).hpc = s.hpc := rfl
@[simp] theorem setAddrLow_cur (v : Byte) (s : State) : (setAddrLow v s).cur = s.cur := rfl
@[simp] theorem setAddrLow_nxt (v : Byte) (s : State) : (setAddrLow v s).nxt = s.nxt := rfl
@[simp] theorem setAddrLow_iFlag (v : Byte) (s : State) : (setAddrLow v s).iFlag = s.iFlag := rfl
@[simp] theorem setAddrLow_savedI (v : Byte) (s : State) : (setAddrLow v s).savedI = s.savedI := rfl
@[simp] theorem setAddrLow_tFlag (v : Byte) (s : State) : (setAddrLow v s).tFlag = s.tFlag := rfl
@[simp] theorem setAddrLow_sLine (v : Byte) (s : State) : (setAddrLow v s).sLine = s.sLine := rfl
@[simp] theorem setAddrLow_disp (v : Byte) (s : State) : (setAddrLow v s).disp = s.disp := rfl
@[simp] theorem setAddrLow_dir (v : Byte) (s : State) : (setAddrLow v s).dir = s.dir := rfl
@[simp] theorem setAddrLow_grpEn (v : Byte) (s : State) : (setAddrLow v s).grpEn = s.grpEn := rfl
@[simp] theorem setAddrLow_pinEn (v : Byte) (s : State) : (setAddrLow v s).pinEn = s.pinEn := rfl
@[simp] theorem setAddrLow_pend (v : Byte) (s : State) : (setAddrLow v s).pend = s.pend := rfl
@[simp] theorem setAddrLow_inLine (v : Byte) (s : State) : (setAddrLow v s).inLine = s.inLine := rfl
@[simp] theorem setAddrLow_fault (v : Byte) (s : State) : (setAddrLow v s).fault = s.fault := rfl
@[simp] theorem setAddrLow_refused (v : Byte) (s : State) : (setAddrLow v s).refused = s.refused := rfl
@[simp] theorem setAddrLow_params (v : Byte) (s : State) : (setAddrLow v s).params = s.params := rfl
@[simp] theorem setAddrLow_mainProgram (v : Byte) (s : State) : (setAddrLow v s).mainProgram = s.mainProgram := rfl
@[simp] theorem setAddrLow_handlerProgram (v : Byte) (s : State) :
    (setAddrLow v s).handlerProgram = s.handlerProgram := rfl
@[simp] theorem setAddrLow_turns (v : Byte) (s : State) : (setAddrLow v s).turns = s.turns := rfl
@[simp] theorem setAddrLow_draws (v : Byte) (s : State) : (setAddrLow v s).draws = s.draws := rfl
@[simp] theorem setAddrLow_segOut (v : Byte) (s : State) : (setAddrLow v s).segOut = s.segOut := rfl

/-! ### setAddrHigh (R80) -/

@[simp] theorem setAddrHigh_nvm (v : Byte) (s : State) : (setAddrHigh v s).nvm = s.nvm := rfl
@[simp] theorem setAddrHigh_nvadr (v : Byte) (s : State) :
    (setAddrHigh v s).nvadr = narrowAddr s.params (v ++ loByte (nvAddr s)) := rfl
@[simp] theorem setAddrHigh_nvdat (v : Byte) (s : State) : (setAddrHigh v s).nvdat = s.nvdat := rfl
@[simp] theorem setAddrHigh_weArmed (v : Byte) (s : State) : (setAddrHigh v s).weArmed = s.weArmed := rfl
@[simp] theorem setAddrHigh_busy (v : Byte) (s : State) : (setAddrHigh v s).busy = s.busy := rfl
@[simp] theorem setAddrHigh_ladr (v : Byte) (s : State) : (setAddrHigh v s).ladr = s.ladr := rfl
@[simp] theorem setAddrHigh_ldat (v : Byte) (s : State) : (setAddrHigh v s).ldat = s.ldat := rfl
@[simp] theorem setAddrHigh_pgmBusy (v : Byte) (s : State) : (setAddrHigh v s).pgmBusy = s.pgmBusy := rfl
@[simp] theorem setAddrHigh_ctx (v : Byte) (s : State) : (setAddrHigh v s).ctx = s.ctx := rfl
@[simp] theorem setAddrHigh_mpc (v : Byte) (s : State) : (setAddrHigh v s).mpc = s.mpc := rfl
@[simp] theorem setAddrHigh_hpc (v : Byte) (s : State) : (setAddrHigh v s).hpc = s.hpc := rfl
@[simp] theorem setAddrHigh_cur (v : Byte) (s : State) : (setAddrHigh v s).cur = s.cur := rfl
@[simp] theorem setAddrHigh_nxt (v : Byte) (s : State) : (setAddrHigh v s).nxt = s.nxt := rfl
@[simp] theorem setAddrHigh_iFlag (v : Byte) (s : State) : (setAddrHigh v s).iFlag = s.iFlag := rfl
@[simp] theorem setAddrHigh_savedI (v : Byte) (s : State) : (setAddrHigh v s).savedI = s.savedI := rfl
@[simp] theorem setAddrHigh_tFlag (v : Byte) (s : State) : (setAddrHigh v s).tFlag = s.tFlag := rfl
@[simp] theorem setAddrHigh_sLine (v : Byte) (s : State) : (setAddrHigh v s).sLine = s.sLine := rfl
@[simp] theorem setAddrHigh_disp (v : Byte) (s : State) : (setAddrHigh v s).disp = s.disp := rfl
@[simp] theorem setAddrHigh_dir (v : Byte) (s : State) : (setAddrHigh v s).dir = s.dir := rfl
@[simp] theorem setAddrHigh_grpEn (v : Byte) (s : State) : (setAddrHigh v s).grpEn = s.grpEn := rfl
@[simp] theorem setAddrHigh_pinEn (v : Byte) (s : State) : (setAddrHigh v s).pinEn = s.pinEn := rfl
@[simp] theorem setAddrHigh_pend (v : Byte) (s : State) : (setAddrHigh v s).pend = s.pend := rfl
@[simp] theorem setAddrHigh_inLine (v : Byte) (s : State) : (setAddrHigh v s).inLine = s.inLine := rfl
@[simp] theorem setAddrHigh_fault (v : Byte) (s : State) : (setAddrHigh v s).fault = s.fault := rfl
@[simp] theorem setAddrHigh_refused (v : Byte) (s : State) : (setAddrHigh v s).refused = s.refused := rfl
@[simp] theorem setAddrHigh_params (v : Byte) (s : State) : (setAddrHigh v s).params = s.params := rfl
@[simp] theorem setAddrHigh_mainProgram (v : Byte) (s : State) : (setAddrHigh v s).mainProgram = s.mainProgram := rfl
@[simp] theorem setAddrHigh_handlerProgram (v : Byte) (s : State) :
    (setAddrHigh v s).handlerProgram = s.handlerProgram := rfl
@[simp] theorem setAddrHigh_turns (v : Byte) (s : State) : (setAddrHigh v s).turns = s.turns := rfl
@[simp] theorem setAddrHigh_draws (v : Byte) (s : State) : (setAddrHigh v s).draws = s.draws := rfl
@[simp] theorem setAddrHigh_segOut (v : Byte) (s : State) : (setAddrHigh v s).segOut = s.segOut := rfl

/-! ### readStrobe (R126) -/

@[simp] theorem readStrobe_nvm (s : State) : (readStrobe s).nvm = s.nvm := rfl
@[simp] theorem readStrobe_nvadr (s : State) : (readStrobe s).nvadr = s.nvadr := rfl
@[simp] theorem readStrobe_nvdat (s : State) : (readStrobe s).nvdat = memRead s.nvm (nvAddr s).toNat := rfl
@[simp] theorem readStrobe_weArmed (s : State) : (readStrobe s).weArmed = s.weArmed := rfl
@[simp] theorem readStrobe_busy (s : State) : (readStrobe s).busy = s.busy := rfl
@[simp] theorem readStrobe_ladr (s : State) : (readStrobe s).ladr = s.ladr := rfl
@[simp] theorem readStrobe_ldat (s : State) : (readStrobe s).ldat = s.ldat := rfl
@[simp] theorem readStrobe_pgmBusy (s : State) : (readStrobe s).pgmBusy = s.pgmBusy := rfl
@[simp] theorem readStrobe_ctx (s : State) : (readStrobe s).ctx = s.ctx := rfl
@[simp] theorem readStrobe_mpc (s : State) : (readStrobe s).mpc = s.mpc := rfl
@[simp] theorem readStrobe_hpc (s : State) : (readStrobe s).hpc = s.hpc := rfl
@[simp] theorem readStrobe_cur (s : State) : (readStrobe s).cur = s.cur := rfl
@[simp] theorem readStrobe_nxt (s : State) : (readStrobe s).nxt = s.nxt := rfl
@[simp] theorem readStrobe_iFlag (s : State) : (readStrobe s).iFlag = s.iFlag := rfl
@[simp] theorem readStrobe_savedI (s : State) : (readStrobe s).savedI = s.savedI := rfl
@[simp] theorem readStrobe_tFlag (s : State) : (readStrobe s).tFlag = s.tFlag := rfl
@[simp] theorem readStrobe_sLine (s : State) : (readStrobe s).sLine = s.sLine := rfl
@[simp] theorem readStrobe_disp (s : State) : (readStrobe s).disp = s.disp := rfl
@[simp] theorem readStrobe_dir (s : State) : (readStrobe s).dir = s.dir := rfl
@[simp] theorem readStrobe_grpEn (s : State) : (readStrobe s).grpEn = s.grpEn := rfl
@[simp] theorem readStrobe_pinEn (s : State) : (readStrobe s).pinEn = s.pinEn := rfl
@[simp] theorem readStrobe_pend (s : State) : (readStrobe s).pend = s.pend := rfl
@[simp] theorem readStrobe_inLine (s : State) : (readStrobe s).inLine = s.inLine := rfl
@[simp] theorem readStrobe_fault (s : State) : (readStrobe s).fault = s.fault := rfl
@[simp] theorem readStrobe_refused (s : State) : (readStrobe s).refused = s.refused := rfl
@[simp] theorem readStrobe_params (s : State) : (readStrobe s).params = s.params := rfl
@[simp] theorem readStrobe_mainProgram (s : State) : (readStrobe s).mainProgram = s.mainProgram := rfl
@[simp] theorem readStrobe_handlerProgram (s : State) : (readStrobe s).handlerProgram = s.handlerProgram := rfl
@[simp] theorem readStrobe_turns (s : State) : (readStrobe s).turns = s.turns := rfl
@[simp] theorem readStrobe_draws (s : State) : (readStrobe s).draws = s.draws := rfl
@[simp] theorem readStrobe_segOut (s : State) : (readStrobe s).segOut = s.segOut := rfl

/-! ### writeStrobe (R129) -/

@[simp] theorem writeStrobe_nvm (s : State) : (writeStrobe s).nvm = s.nvm := rfl
@[simp] theorem writeStrobe_nvadr (s : State) : (writeStrobe s).nvadr = s.nvadr := rfl
@[simp] theorem writeStrobe_nvdat (s : State) : (writeStrobe s).nvdat = s.nvdat := rfl
@[simp] theorem writeStrobe_weArmed (s : State) : (writeStrobe s).weArmed = s.weArmed := rfl
@[simp] theorem writeStrobe_busy (s : State) : (writeStrobe s).busy = if s.weArmed then true else s.busy := rfl
@[simp] theorem writeStrobe_ladr (s : State) : (writeStrobe s).ladr = if s.weArmed then nvAddr s else s.ladr := rfl
@[simp] theorem writeStrobe_ldat (s : State) : (writeStrobe s).ldat = if s.weArmed then s.nvdat else s.ldat := rfl
@[simp] theorem writeStrobe_pgmBusy (s : State) : (writeStrobe s).pgmBusy = s.pgmBusy := rfl
@[simp] theorem writeStrobe_ctx (s : State) : (writeStrobe s).ctx = s.ctx := rfl
@[simp] theorem writeStrobe_mpc (s : State) : (writeStrobe s).mpc = s.mpc := rfl
@[simp] theorem writeStrobe_hpc (s : State) : (writeStrobe s).hpc = s.hpc := rfl
@[simp] theorem writeStrobe_cur (s : State) : (writeStrobe s).cur = s.cur := rfl
@[simp] theorem writeStrobe_nxt (s : State) : (writeStrobe s).nxt = s.nxt := rfl
@[simp] theorem writeStrobe_iFlag (s : State) : (writeStrobe s).iFlag = s.iFlag := rfl
@[simp] theorem writeStrobe_savedI (s : State) : (writeStrobe s).savedI = s.savedI := rfl
@[simp] theorem writeStrobe_tFlag (s : State) : (writeStrobe s).tFlag = s.tFlag := rfl
@[simp] theorem writeStrobe_sLine (s : State) : (writeStrobe s).sLine = s.sLine := rfl
@[simp] theorem writeStrobe_disp (s : State) : (writeStrobe s).disp = s.disp := rfl
@[simp] theorem writeStrobe_dir (s : State) : (writeStrobe s).dir = s.dir := rfl
@[simp] theorem writeStrobe_grpEn (s : State) : (writeStrobe s).grpEn = s.grpEn := rfl
@[simp] theorem writeStrobe_pinEn (s : State) : (writeStrobe s).pinEn = s.pinEn := rfl
@[simp] theorem writeStrobe_pend (s : State) : (writeStrobe s).pend = s.pend := rfl
@[simp] theorem writeStrobe_inLine (s : State) : (writeStrobe s).inLine = s.inLine := rfl
@[simp] theorem writeStrobe_fault (s : State) : (writeStrobe s).fault = s.fault := rfl
@[simp] theorem writeStrobe_refused (s : State) : (writeStrobe s).refused = s.refused := rfl
@[simp] theorem writeStrobe_params (s : State) : (writeStrobe s).params = s.params := rfl
@[simp] theorem writeStrobe_mainProgram (s : State) : (writeStrobe s).mainProgram = s.mainProgram := rfl
@[simp] theorem writeStrobe_handlerProgram (s : State) : (writeStrobe s).handlerProgram = s.handlerProgram := rfl
@[simp] theorem writeStrobe_turns (s : State) : (writeStrobe s).turns = s.turns := rfl
@[simp] theorem writeStrobe_draws (s : State) : (writeStrobe s).draws = s.draws := rfl
@[simp] theorem writeStrobe_segOut (s : State) : (writeStrobe s).segOut = s.segOut := rfl

/-! ### faulted (R201, R203) -/

@[simp] theorem faulted_nvm (k : FaultKind) (w : Option Word) (r : Option WReg) (s : State) :
    (faulted k w r s).nvm = s.nvm := rfl
@[simp] theorem faulted_nvadr (k : FaultKind) (w : Option Word) (r : Option WReg) (s : State) :
    (faulted k w r s).nvadr = s.nvadr := rfl
@[simp] theorem faulted_nvdat (k : FaultKind) (w : Option Word) (r : Option WReg) (s : State) :
    (faulted k w r s).nvdat = s.nvdat := rfl
@[simp] theorem faulted_weArmed (k : FaultKind) (w : Option Word) (r : Option WReg) (s : State) :
    (faulted k w r s).weArmed = s.weArmed := rfl
@[simp] theorem faulted_busy (k : FaultKind) (w : Option Word) (r : Option WReg) (s : State) :
    (faulted k w r s).busy = s.busy := rfl
@[simp] theorem faulted_ladr (k : FaultKind) (w : Option Word) (r : Option WReg) (s : State) :
    (faulted k w r s).ladr = s.ladr := rfl
@[simp] theorem faulted_ldat (k : FaultKind) (w : Option Word) (r : Option WReg) (s : State) :
    (faulted k w r s).ldat = s.ldat := rfl
@[simp] theorem faulted_pgmBusy (k : FaultKind) (w : Option Word) (r : Option WReg) (s : State) :
    (faulted k w r s).pgmBusy = s.pgmBusy := rfl
@[simp] theorem faulted_ctx (k : FaultKind) (w : Option Word) (r : Option WReg) (s : State) :
    (faulted k w r s).ctx = s.ctx := rfl
@[simp] theorem faulted_mpc (k : FaultKind) (w : Option Word) (r : Option WReg) (s : State) :
    (faulted k w r s).mpc = s.mpc := rfl
@[simp] theorem faulted_hpc (k : FaultKind) (w : Option Word) (r : Option WReg) (s : State) :
    (faulted k w r s).hpc = s.hpc := rfl
@[simp] theorem faulted_cur (k : FaultKind) (w : Option Word) (r : Option WReg) (s : State) :
    (faulted k w r s).cur = s.cur := rfl
@[simp] theorem faulted_nxt (k : FaultKind) (w : Option Word) (r : Option WReg) (s : State) :
    (faulted k w r s).nxt = s.nxt := rfl
@[simp] theorem faulted_iFlag (k : FaultKind) (w : Option Word) (r : Option WReg) (s : State) :
    (faulted k w r s).iFlag = s.iFlag := rfl
@[simp] theorem faulted_savedI (k : FaultKind) (w : Option Word) (r : Option WReg) (s : State) :
    (faulted k w r s).savedI = s.savedI := rfl
@[simp] theorem faulted_tFlag (k : FaultKind) (w : Option Word) (r : Option WReg) (s : State) :
    (faulted k w r s).tFlag = s.tFlag := rfl
@[simp] theorem faulted_sLine (k : FaultKind) (w : Option Word) (r : Option WReg) (s : State) :
    (faulted k w r s).sLine = s.sLine := rfl
@[simp] theorem faulted_disp (k : FaultKind) (w : Option Word) (r : Option WReg) (s : State) :
    (faulted k w r s).disp = s.disp := rfl
@[simp] theorem faulted_dir (k : FaultKind) (w : Option Word) (r : Option WReg) (s : State) :
    (faulted k w r s).dir = s.dir := rfl
@[simp] theorem faulted_grpEn (k : FaultKind) (w : Option Word) (r : Option WReg) (s : State) :
    (faulted k w r s).grpEn = s.grpEn := rfl
@[simp] theorem faulted_pinEn (k : FaultKind) (w : Option Word) (r : Option WReg) (s : State) :
    (faulted k w r s).pinEn = s.pinEn := rfl
@[simp] theorem faulted_pend (k : FaultKind) (w : Option Word) (r : Option WReg) (s : State) :
    (faulted k w r s).pend = s.pend := rfl
@[simp] theorem faulted_inLine (k : FaultKind) (w : Option Word) (r : Option WReg) (s : State) :
    (faulted k w r s).inLine = s.inLine := rfl
@[simp] theorem faulted_fault (k : FaultKind) (w : Option Word) (r : Option WReg) (s : State) :
    (faulted k w r s).fault = some { kind := k, ctx := s.ctx, upc := upc s, word := w, reg := r } := rfl
@[simp] theorem faulted_refused (k : FaultKind) (w : Option Word) (r : Option WReg) (s : State) :
    (faulted k w r s).refused = s.refused := rfl
@[simp] theorem faulted_params (k : FaultKind) (w : Option Word) (r : Option WReg) (s : State) :
    (faulted k w r s).params = s.params := rfl
@[simp] theorem faulted_mainProgram (k : FaultKind) (w : Option Word) (r : Option WReg) (s : State) :
    (faulted k w r s).mainProgram = s.mainProgram := rfl
@[simp] theorem faulted_handlerProgram (k : FaultKind) (w : Option Word) (r : Option WReg) (s : State) :
    (faulted k w r s).handlerProgram = s.handlerProgram := rfl
@[simp] theorem faulted_turns (k : FaultKind) (w : Option Word) (r : Option WReg) (s : State) :
    (faulted k w r s).turns = s.turns := rfl
@[simp] theorem faulted_draws (k : FaultKind) (w : Option Word) (r : Option WReg) (s : State) :
    (faulted k w r s).draws = s.draws := rfl
@[simp] theorem faulted_segOut (k : FaultKind) (w : Option Word) (r : Option WReg) (s : State) :
    (faulted k w r s).segOut = s.segOut := rfl

/-! ### refuse (R202) -/

@[simp] theorem refuse_nvm (s : State) : (refuse s).nvm = s.nvm := rfl
@[simp] theorem refuse_nvadr (s : State) : (refuse s).nvadr = s.nvadr := rfl
@[simp] theorem refuse_nvdat (s : State) : (refuse s).nvdat = s.nvdat := rfl
@[simp] theorem refuse_weArmed (s : State) : (refuse s).weArmed = s.weArmed := rfl
@[simp] theorem refuse_busy (s : State) : (refuse s).busy = s.busy := rfl
@[simp] theorem refuse_ladr (s : State) : (refuse s).ladr = s.ladr := rfl
@[simp] theorem refuse_ldat (s : State) : (refuse s).ldat = s.ldat := rfl
@[simp] theorem refuse_pgmBusy (s : State) : (refuse s).pgmBusy = s.pgmBusy := rfl
@[simp] theorem refuse_ctx (s : State) : (refuse s).ctx = s.ctx := rfl
@[simp] theorem refuse_mpc (s : State) : (refuse s).mpc = s.mpc := rfl
@[simp] theorem refuse_hpc (s : State) : (refuse s).hpc = s.hpc := rfl
@[simp] theorem refuse_cur (s : State) : (refuse s).cur = s.cur := rfl
@[simp] theorem refuse_nxt (s : State) : (refuse s).nxt = s.nxt := rfl
@[simp] theorem refuse_iFlag (s : State) : (refuse s).iFlag = s.iFlag := rfl
@[simp] theorem refuse_savedI (s : State) : (refuse s).savedI = s.savedI := rfl
@[simp] theorem refuse_tFlag (s : State) : (refuse s).tFlag = s.tFlag := rfl
@[simp] theorem refuse_sLine (s : State) : (refuse s).sLine = s.sLine := rfl
@[simp] theorem refuse_disp (s : State) : (refuse s).disp = s.disp := rfl
@[simp] theorem refuse_dir (s : State) : (refuse s).dir = s.dir := rfl
@[simp] theorem refuse_grpEn (s : State) : (refuse s).grpEn = s.grpEn := rfl
@[simp] theorem refuse_pinEn (s : State) : (refuse s).pinEn = s.pinEn := rfl
@[simp] theorem refuse_pend (s : State) : (refuse s).pend = s.pend := rfl
@[simp] theorem refuse_inLine (s : State) : (refuse s).inLine = s.inLine := rfl
@[simp] theorem refuse_fault (s : State) : (refuse s).fault = s.fault := rfl
@[simp] theorem refuse_refused (s : State) : (refuse s).refused = true := rfl
@[simp] theorem refuse_params (s : State) : (refuse s).params = s.params := rfl
@[simp] theorem refuse_mainProgram (s : State) : (refuse s).mainProgram = s.mainProgram := rfl
@[simp] theorem refuse_handlerProgram (s : State) : (refuse s).handlerProgram = s.handlerProgram := rfl
@[simp] theorem refuse_turns (s : State) : (refuse s).turns = s.turns := rfl
@[simp] theorem refuse_draws (s : State) : (refuse s).draws = s.draws := rfl
@[simp] theorem refuse_segOut (s : State) : (refuse s).segOut = s.segOut := rfl

/-! ### interruptEntry (R206) -/

@[simp] theorem interruptEntry_nvm (s : State) : (interruptEntry s).nvm = s.nvm := rfl
@[simp] theorem interruptEntry_nvadr (s : State) : (interruptEntry s).nvadr = s.nvadr := rfl
@[simp] theorem interruptEntry_nvdat (s : State) : (interruptEntry s).nvdat = s.nvdat := rfl
@[simp] theorem interruptEntry_weArmed (s : State) : (interruptEntry s).weArmed = false := rfl
@[simp] theorem interruptEntry_busy (s : State) : (interruptEntry s).busy = s.busy := rfl
@[simp] theorem interruptEntry_ladr (s : State) : (interruptEntry s).ladr = s.ladr := rfl
@[simp] theorem interruptEntry_ldat (s : State) : (interruptEntry s).ldat = s.ldat := rfl
@[simp] theorem interruptEntry_pgmBusy (s : State) : (interruptEntry s).pgmBusy = s.pgmBusy := rfl
@[simp] theorem interruptEntry_ctx (s : State) : (interruptEntry s).ctx = .isr := rfl
@[simp] theorem interruptEntry_mpc (s : State) : (interruptEntry s).mpc = s.mpc := rfl
@[simp] theorem interruptEntry_hpc (s : State) : (interruptEntry s).hpc = 0 := rfl
@[simp] theorem interruptEntry_cur (s : State) : (interruptEntry s).cur = s.cur := rfl
@[simp] theorem interruptEntry_nxt (s : State) : (interruptEntry s).nxt = s.nxt := rfl
@[simp] theorem interruptEntry_iFlag (s : State) : (interruptEntry s).iFlag = false := rfl
@[simp] theorem interruptEntry_savedI (s : State) : (interruptEntry s).savedI = s.savedI := rfl
@[simp] theorem interruptEntry_tFlag (s : State) : (interruptEntry s).tFlag = s.tFlag := rfl
@[simp] theorem interruptEntry_sLine (s : State) : (interruptEntry s).sLine = s.sLine := rfl
@[simp] theorem interruptEntry_disp (s : State) : (interruptEntry s).disp = s.disp := rfl
@[simp] theorem interruptEntry_dir (s : State) : (interruptEntry s).dir = s.dir := rfl
@[simp] theorem interruptEntry_grpEn (s : State) : (interruptEntry s).grpEn = s.grpEn := rfl
@[simp] theorem interruptEntry_pinEn (s : State) : (interruptEntry s).pinEn = s.pinEn := rfl
@[simp] theorem interruptEntry_pend (s : State) : (interruptEntry s).pend = false := rfl
@[simp] theorem interruptEntry_inLine (s : State) : (interruptEntry s).inLine = s.inLine := rfl
@[simp] theorem interruptEntry_fault (s : State) : (interruptEntry s).fault = s.fault := rfl
@[simp] theorem interruptEntry_refused (s : State) : (interruptEntry s).refused = s.refused := rfl
@[simp] theorem interruptEntry_params (s : State) : (interruptEntry s).params = s.params := rfl
@[simp] theorem interruptEntry_mainProgram (s : State) : (interruptEntry s).mainProgram = s.mainProgram := rfl
@[simp] theorem interruptEntry_handlerProgram (s : State) : (interruptEntry s).handlerProgram = s.handlerProgram := rfl
@[simp] theorem interruptEntry_turns (s : State) : (interruptEntry s).turns = s.turns := rfl
@[simp] theorem interruptEntry_draws (s : State) : (interruptEntry s).draws = s.draws := rfl
@[simp] theorem interruptEntry_segOut (s : State) : (interruptEntry s).segOut = s.segOut := rfl

/-! ### interruptReturn (R207) -/

@[simp] theorem interruptReturn_nvm (s : State) : (interruptReturn s).nvm = s.nvm := rfl
@[simp] theorem interruptReturn_nvadr (s : State) : (interruptReturn s).nvadr = s.nvadr := rfl
@[simp] theorem interruptReturn_nvdat (s : State) : (interruptReturn s).nvdat = s.nvdat := rfl
@[simp] theorem interruptReturn_weArmed (s : State) : (interruptReturn s).weArmed = false := rfl
@[simp] theorem interruptReturn_busy (s : State) : (interruptReturn s).busy = s.busy := rfl
@[simp] theorem interruptReturn_ladr (s : State) : (interruptReturn s).ladr = s.ladr := rfl
@[simp] theorem interruptReturn_ldat (s : State) : (interruptReturn s).ldat = s.ldat := rfl
@[simp] theorem interruptReturn_pgmBusy (s : State) : (interruptReturn s).pgmBusy = s.pgmBusy := rfl
@[simp] theorem interruptReturn_ctx (s : State) : (interruptReturn s).ctx = .main := rfl
@[simp] theorem interruptReturn_mpc (s : State) : (interruptReturn s).mpc = s.mpc := rfl
@[simp] theorem interruptReturn_hpc (s : State) : (interruptReturn s).hpc = s.hpc := rfl
@[simp] theorem interruptReturn_cur (s : State) : (interruptReturn s).cur = s.cur := rfl
@[simp] theorem interruptReturn_nxt (s : State) : (interruptReturn s).nxt = s.nxt := rfl
@[simp] theorem interruptReturn_iFlag (s : State) : (interruptReturn s).iFlag = true := rfl
@[simp] theorem interruptReturn_savedI (s : State) : (interruptReturn s).savedI = s.savedI := rfl
@[simp] theorem interruptReturn_tFlag (s : State) : (interruptReturn s).tFlag = s.tFlag := rfl
@[simp] theorem interruptReturn_sLine (s : State) : (interruptReturn s).sLine = s.sLine := rfl
@[simp] theorem interruptReturn_disp (s : State) : (interruptReturn s).disp = s.disp := rfl
@[simp] theorem interruptReturn_dir (s : State) : (interruptReturn s).dir = s.dir := rfl
@[simp] theorem interruptReturn_grpEn (s : State) : (interruptReturn s).grpEn = s.grpEn := rfl
@[simp] theorem interruptReturn_pinEn (s : State) : (interruptReturn s).pinEn = s.pinEn := rfl
@[simp] theorem interruptReturn_pend (s : State) : (interruptReturn s).pend = s.pend := rfl
@[simp] theorem interruptReturn_inLine (s : State) : (interruptReturn s).inLine = s.inLine := rfl
@[simp] theorem interruptReturn_fault (s : State) : (interruptReturn s).fault = s.fault := rfl
@[simp] theorem interruptReturn_refused (s : State) : (interruptReturn s).refused = s.refused := rfl
@[simp] theorem interruptReturn_params (s : State) : (interruptReturn s).params = s.params := rfl
@[simp] theorem interruptReturn_mainProgram (s : State) : (interruptReturn s).mainProgram = s.mainProgram := rfl
@[simp] theorem interruptReturn_handlerProgram (s : State) :
    (interruptReturn s).handlerProgram = s.handlerProgram := rfl
@[simp] theorem interruptReturn_turns (s : State) : (interruptReturn s).turns = s.turns := rfl
@[simp] theorem interruptReturn_draws (s : State) : (interruptReturn s).draws = s.draws := rfl
@[simp] theorem interruptReturn_segOut (s : State) : (interruptReturn s).segOut = s.segOut := rfl

/-! ### resetEffect (R41, R231) -/

@[simp] theorem resetEffect_nvm (s : State) : (resetEffect s).nvm = cutCommit s := rfl
@[simp] theorem resetEffect_nvadr (s : State) :
    (resetEffect s).nvadr = narrowAddr s.params (Config.drawAddr s.draws) := rfl
@[simp] theorem resetEffect_nvdat (s : State) : (resetEffect s).nvdat = Config.drawByte (s.draws + 1) := rfl
@[simp] theorem resetEffect_weArmed (s : State) : (resetEffect s).weArmed = false := rfl
@[simp] theorem resetEffect_busy (s : State) : (resetEffect s).busy = false := rfl
@[simp] theorem resetEffect_ladr (s : State) :
    (resetEffect s).ladr = narrowAddr s.params (Config.drawAddr (s.draws + 1)) := rfl
@[simp] theorem resetEffect_ldat (s : State) : (resetEffect s).ldat = Config.drawByte (s.draws + 2) := rfl
@[simp] theorem resetEffect_pgmBusy (s : State) : (resetEffect s).pgmBusy = s.pgmBusy := rfl
@[simp] theorem resetEffect_ctx (s : State) : (resetEffect s).ctx = .main := rfl
@[simp] theorem resetEffect_mpc (s : State) : (resetEffect s).mpc = 0 := rfl
@[simp] theorem resetEffect_hpc (s : State) : (resetEffect s).hpc = 0 := rfl
@[simp] theorem resetEffect_cur (s : State) : (resetEffect s).cur = none := rfl
@[simp] theorem resetEffect_nxt (s : State) : (resetEffect s).nxt = none := rfl
@[simp] theorem resetEffect_iFlag (s : State) : (resetEffect s).iFlag = false := rfl
@[simp] theorem resetEffect_savedI (s : State) : (resetEffect s).savedI = false := rfl
@[simp] theorem resetEffect_tFlag (s : State) : (resetEffect s).tFlag = false := rfl
@[simp] theorem resetEffect_sLine (s : State) : (resetEffect s).sLine = Config.drawBit s.draws := rfl
@[simp] theorem resetEffect_disp (s : State) : (resetEffect s).disp = Config.drawByte (s.draws + 3) := rfl
@[simp] theorem resetEffect_dir (s : State) : (resetEffect s).dir = Config.drawByte (s.draws + 4) := rfl
@[simp] theorem resetEffect_grpEn (s : State) : (resetEffect s).grpEn = false := rfl
@[simp] theorem resetEffect_pinEn (s : State) : (resetEffect s).pinEn = false := rfl
@[simp] theorem resetEffect_pend (s : State) : (resetEffect s).pend = false := rfl
@[simp] theorem resetEffect_inLine (s : State) : (resetEffect s).inLine = s.inLine := rfl
@[simp] theorem resetEffect_fault (s : State) : (resetEffect s).fault = s.fault := rfl
@[simp] theorem resetEffect_refused (s : State) : (resetEffect s).refused = s.refused := rfl
@[simp] theorem resetEffect_params (s : State) : (resetEffect s).params = s.params := rfl
@[simp] theorem resetEffect_mainProgram (s : State) : (resetEffect s).mainProgram = s.mainProgram := rfl
@[simp] theorem resetEffect_handlerProgram (s : State) : (resetEffect s).handlerProgram = s.handlerProgram := rfl
@[simp] theorem resetEffect_turns (s : State) : (resetEffect s).turns = s.turns := rfl
@[simp] theorem resetEffect_draws (s : State) : (resetEffect s).draws = s.draws + 5 := rfl
@[simp] theorem resetEffect_segOut (s : State) : (resetEffect s).segOut = s.segOut := rfl

end Sys2Proof.Machine
end

