-- ==== Sys2Proof/Laws/Ops.lean ====
section
/-! SUPPORT. One lemma per shared operation that says once everything it can answer; later proofs cite these. -/

namespace Sys2Proof.Machine

theorem upc_main {s : State} (h : s.ctx = .main) : upc s = s.mpc := by simp [upc, h]

theorem upc_isr {s : State} (h : s.ctx = .isr) : upc s = s.hpc := by simp [upc, h]

/-- The busy condition is BUSY or PGM_BUSY. -/
theorem nvmcBusy_eq_true_iff (s : State) : nvmcBusy s = true ↔ s.busy = true ∨ s.pgmBusy = true := by
  simp [nvmcBusy]

theorem nvmcBusy_eq_false_iff (s : State) : nvmcBusy s = false ↔ s.busy = false ∧ s.pgmBusy = false := by
  simp [nvmcBusy]

/-- IRQ holds exactly in MAIN context with I, both enables and PEND set. -/
theorem irq_iff (s : State) :
    irq s = true ↔
      s.ctx = .main ∧ s.iFlag = true ∧ s.grpEn = true ∧ s.pinEn = true ∧ s.pend = true := by
  simp [irq, and_assoc]

theorem nvmcWrite_ready {s : State} (i : Instr) (f : State → State) (h : nvmcBusy s = false) :
    nvmcWrite i f s = .next (retire (f s)) := by simp [nvmcWrite, h]

theorem nvmcWrite_busy {s : State} (i : Instr) (f : State → State) (h : nvmcBusy s = true) :
    nvmcWrite i f s = .next (faulted .nvmcBusy (encode i) none s) := by simp [nvmcWrite, h, raise]

/-- What a checked write can answer: the fault and nothing else, or the write and the MOP's end. -/
theorem nvmcWrite_cases {i : Instr} {f : State → State} {s t : State} (h : nvmcWrite i f s = .next t) :
    (nvmcBusy s = true ∧ t = faulted .nvmcBusy (encode i) none s) ∨
      (nvmcBusy s = false ∧ t = retire (f s)) := by
  cases hb : nvmcBusy s with
  | true => rw [nvmcWrite_busy i f hb, Host.Outcome.next.injEq] at h; exact .inl ⟨rfl, h.symm⟩
  | false => rw [nvmcWrite_ready i f hb, Host.Outcome.next.injEq] at h; exact .inr ⟨rfl, h.symm⟩

theorem withWorking_written {s : State} {r : WReg} {v : Byte} (i : Instr) (f : Byte → Answer)
    (h : readWorking r s = some v) : withWorking i r f s = f v := by simp [withWorking, h]

theorem withWorking_unwritten {s : State} {r : WReg} (i : Instr) (f : Byte → Answer)
    (h : readWorking r s = none) : withWorking i r f s = .next (faulted .unwritten (encode i) (some r) s) := by
  simp [withWorking, h, raise]

/-- What a MOP with a working-register source can answer: the fault, or what it does with the byte. -/
theorem withWorking_cases {i : Instr} {r : WReg} {f : Byte → Answer} {s t : State}
    (h : withWorking i r f s = .next t) :
    (readWorking r s = none ∧ t = faulted .unwritten (encode i) (some r) s) ∨
      ∃ v, readWorking r s = some v ∧ f v = .next t := by
  cases hr : readWorking r s with
  | none => rw [withWorking_unwritten i f hr, Host.Outcome.next.injEq] at h; exact .inl ⟨rfl, h.symm⟩
  | some v => rw [withWorking_written i f hr] at h; exact .inr ⟨v, rfl, h⟩

theorem raise_eq (k : FaultKind) (i : Instr) (r : Option WReg) (s : State) :
    raise k i r s = .next (faulted k (encode i) r s) := rfl

@[simp] theorem readWorking_writeWorking_self (r : WReg) (v : Byte) (s : State) :
    readWorking r (writeWorking r v s) = some v := by
  cases r <;> rfl

theorem readWorking_writeWorking_other {r q : WReg} (v : Byte) (s : State) (h : q ≠ r) :
    readWorking q (writeWorking r v s) = readWorking q s := by
  cases r <;> cases q <;> first | rfl | exact absurd rfl h

/-- The end of a MOP keeps the interrupt request as it was. -/
@[simp] theorem irq_retire (s : State) : irq (retire s) = irq s := rfl

/-- The end of a MOP moves the running context's counter on by one. -/
@[simp] theorem upc_retire (s : State) : upc (retire s) = upc s + 1 := by
  cases h : s.ctx <;> simp [upc, h]

end Sys2Proof.Machine
end

