-- ==== Sys2Proof/Laws/Exec.lean ====
section
/-! SUPPORT. What executing an instruction can do, said once for all of them: a fault that writes only FAULT, a hold, or
the instruction's own effect. Proofs about every instruction take `exec_cases` and then one case per constructor. -/

namespace Sys2Proof.Machine

/-- The instruction's own effect: what `t` can be where the instruction neither faults nor holds. -/
def OwnEffect (i : Instr) (s t : State) : Prop :=
  match i with
  | .nop | .wrNvcrClr | .waitrdy => t = retire s
  | .wrNvcrRe => t = retire (readStrobe s)
  | .wrNvcrWs => t = retire (writeStrobe s)
  | .wrNvcrWe => t = { advance s with weArmed := true }
  | .wrNvdat v => t = retire { s with nvdat := v }
  | .wrNvadrl v => t = retire (setAddrLow v s)
  | .wrNvadrh v => t = retire (setAddrHigh v s)
  | .wrDisp v => t = retire { s with disp := v }
  | .wrDir v => t = retire { s with dir := v }
  | .wrIcr imm => (s.ctx = .main ∨ imm.getLsbD 2 = false) ∧
      t = retire { s with grpEn := imm.getLsbD 0, pinEn := imm.getLsbD 1, iFlag := imm.getLsbD 2 }
  | .wrrNvdat _ => ∃ v, t = retire { s with nvdat := v }
  | .wrrNvadrl _ => ∃ v, t = retire (setAddrLow v s)
  | .wrrNvadrh _ => ∃ v, t = retire (setAddrHigh v s)
  | .wrrDisp _ => ∃ v, t = retire { s with disp := v }
  | .wrrDir _ => ∃ v, t = retire { s with dir := v }
  | .rdNvcr r | .rdNvdat r | .rdNvadrl r | .rdNvadrh r | .rdDisp r | .rdIcr r | .rdStat r | .rdDir r =>
    ∃ v, t = retire (writeWorking r v s)
  | .inc => ∃ v, t = retire (writeWorking .nxt v s)
  | .flipt => s.ctx = .isr ∧
      (t = retire { s with tFlag := false } ∨ t = interruptReturn { s with tFlag := true })
  | .tgls => t = retire { s with sLine := !s.sLine }
  | .cliSave => t = retire { s with savedI := s.iFlag, iFlag := false }
  | .iRestore => (s.ctx = .main ∨ s.savedI = false) ∧ t = retire { s with iFlag := s.savedI }
  | .reti => s.ctx = .isr ∧ t = interruptReturn s
  | .idle => False
  | .encout _ => ∃ v, t = retire { s with disp := v }
  | .evEdge => t = { s with inLine := !s.inLine, pend := s.pend || (s.grpEn && s.pinEn) }
  | .evCommit => s.busy = true ∧
      t = { s with nvm := memWrite s.nvm (commitAddr s).toNat s.ldat, busy := false }
  | .evPgmset => t = { s with pgmBusy := true }
  | .evPgmclr => t = { s with pgmBusy := false }
  | .evReset => t = resetEffect s
  | .segEncode _ | .segOutpat _ => ∃ v, t = { s with segOut := v }

/-- Executing an instruction faults and writes only FAULT, holds, or has its own effect. -/
theorem exec_cases {i : Instr} {s t : State} (h : exec i s = .next t) :
    (∃ k r, t = faulted k (encode i) r s ∧ k ≠ .runOffEnd ∧ (k = .unwritten ↔ r ≠ none)) ∨
      t = s ∨ OwnEffect i s t := by
  cases i <;> simp only [exec, execNop, execWrNvcrClr, execWrNvcrRe, execWrNvcrWs, execWrNvcrWe, execWrNvdat,
    execWrNvadrl, execWrNvadrh, execWrDisp, execWrDir, execWrIcr, execWrrNvdat, execWrrNvadrl, execWrrNvadrh,
    execWrrDisp, execWrrDir, execRdNvcr, execRdNvdat, execRdNvadrl, execRdNvadrh, execRdDisp, execRdIcr, execRdStat,
    execRdDir, execWaitrdy, execInc, execFlipt, execTgls, execCliSave, execIRestore, execReti, execIdle, execEncout,
    execEvEdge, execEvCommit, execEvPgmset, execEvPgmclr, execEvReset, execSegEncode, execSegOutpat, busRead,
    nvmcWrite, withWorking, raise] at h
  all_goals (repeat' split at h)
  all_goals (simp only [Host.Outcome.next.injEq] at h; subst h)
  all_goals first
    | exact .inr (.inr rfl)
    | exact .inr (.inr ⟨_, rfl⟩)
    | exact .inl ⟨_, _, rfl, by simp, by simp⟩
    | exact .inr (.inl rfl)
    | exact .inr (.inr ⟨by assumption, rfl⟩)
    | exact .inr (.inr ⟨by cases hc : s.ctx <;> simp_all, rfl⟩)
    | exact .inr (.inr ⟨by cases hc : s.ctx <;> simp_all, .inl rfl⟩)
    | exact .inr (.inr ⟨by cases hc : s.ctx <;> simp_all, .inr rfl⟩)

end Sys2Proof.Machine
end

