-- ==== Sys2Proof/Laws/Memory.lean ====
section
/-! SUPPORT. The laws of the NVM byte array: reading after writing, and that every memory operation keeps the canonical
form. -/

namespace Sys2Proof.Machine

theorem memRead_memErase_self (m : Memory) (a : Nat) : memRead (memErase m a) a = erasedByte := by
  induction m with
  | nil => rfl
  | cons c rest ih =>
    obtain ⟨b, v⟩ := c
    by_cases h : b = a <;> simp [memErase, memRead, h, ih]

theorem memRead_memErase_other (m : Memory) (a x : Nat) (hx : x ≠ a) : memRead (memErase m a) x = memRead m x := by
  induction m with
  | nil => rfl
  | cons c rest ih =>
    obtain ⟨b, v⟩ := c
    by_cases h : b = a
    · subst h; simp [memErase, memRead, ih, Ne.symm hx]
    · simp [memErase, memRead, h, ih]

theorem memRead_memInsert_other (m : Memory) (a x : Nat) (v : Byte) (hx : x ≠ a) :
    memRead (memInsert m a v) x = memRead m x := by
  induction m with
  | nil => simp [memInsert, memRead, Ne.symm hx]
  | cons c rest ih =>
    obtain ⟨b, y⟩ := c
    by_cases h : a < b
    · simp [memInsert, memRead, h, Ne.symm hx]
    · simp [memInsert, memRead, h, ih]

theorem memRead_memInsert_self (m : Memory) (a : Nat) (v : Byte) (h : ∀ c ∈ m, c.1 ≠ a) :
    memRead (memInsert m a v) a = v := by
  induction m with
  | nil => simp [memInsert, memRead]
  | cons c rest ih =>
    obtain ⟨b, y⟩ := c
    have hb : b ≠ a := h (b, y) (by simp)
    have hrest := ih fun c hc => h c (by simp [hc])
    by_cases hlt : a < b <;> simp [memInsert, memRead, hlt, hb, hrest]

theorem fst_ne_of_mem_memErase {m : Memory} {a : Nat} {c : Host.Cell} (h : c ∈ memErase m a) : c ∈ m ∧ c.1 ≠ a := by
  induction m with
  | nil => simp [memErase] at h
  | cons d rest ih =>
    obtain ⟨b, v⟩ := d
    by_cases hb : b = a
    · simp only [memErase, hb, if_true] at h
      exact ⟨by simp [(ih h).1], (ih h).2⟩
    · simp only [memErase, hb, if_false, List.mem_cons] at h
      rcases h with rfl | h
      · exact ⟨by simp, hb⟩
      · exact ⟨by simp [(ih h).1], (ih h).2⟩

/-- A read after a write to the same address gives the byte written. -/
theorem memRead_memWrite_self (m : Memory) (a : Nat) (v : Byte) : memRead (memWrite m a v) a = v := by
  unfold memWrite
  split
  · next h => rw [memRead_memErase_self, h]
  · exact memRead_memInsert_self _ _ _ fun c hc => (fst_ne_of_mem_memErase hc).2

/-- A write leaves every other address alone. -/
theorem memRead_memWrite_other (m : Memory) (a x : Nat) (v : Byte) (hx : x ≠ a) :
    memRead (memWrite m a v) x = memRead m x := by
  unfold memWrite
  split
  · exact memRead_memErase_other m a x hx
  · rw [memRead_memInsert_other _ _ _ _ hx, memRead_memErase_other m a x hx]

/-- The canonical form, taken apart: rising addresses, each below the size, no cell at the unlisted value. -/
theorem Memory.wf_iff (n : Nat) (m : Memory) :
    Memory.wf n m = true ↔
      (m.Pairwise fun c d => c.1 < d.1) ∧ ∀ c ∈ m, c.1 < n ∧ c.2 ≠ erasedByte := by
  simp [Memory.wf]

theorem memErase_pairwise {m : Memory} (a : Nat) (h : m.Pairwise fun c d => c.1 < d.1) :
    (memErase m a).Pairwise fun c d => c.1 < d.1 := by
  induction m with
  | nil => simp [memErase]
  | cons c rest ih =>
    obtain ⟨b, v⟩ := c
    rw [List.pairwise_cons] at h
    by_cases hb : b = a
    · simpa [memErase, hb] using ih h.2
    · simp only [memErase, hb, if_false, List.pairwise_cons]
      exact ⟨fun c hc => h.1 c (fst_ne_of_mem_memErase hc).1, ih h.2⟩

theorem mem_memInsert {m : Memory} {a : Nat} {v : Byte} {c : Host.Cell} (h : c ∈ memInsert m a v) :
    c = (a, v) ∨ c ∈ m := by
  induction m with
  | nil => simpa [memInsert] using h
  | cons d rest ih =>
    obtain ⟨b, x⟩ := d
    simp only [memInsert] at h
    split at h
    · simpa using h
    · rcases List.mem_cons.1 h with rfl | h
      · simp
      · rcases ih h with h | h <;> simp [h]

theorem memInsert_pairwise {m : Memory} {a : Nat} {v : Byte} (h : m.Pairwise fun c d => c.1 < d.1)
    (ha : ∀ c ∈ m, c.1 ≠ a) : (memInsert m a v).Pairwise fun c d => c.1 < d.1 := by
  induction m with
  | nil => simp [memInsert]
  | cons d rest ih =>
    obtain ⟨b, x⟩ := d
    rw [List.pairwise_cons] at h
    have hb : b ≠ a := ha (b, x) (by simp)
    have hrest : ∀ c ∈ rest, c.1 ≠ a := fun c hc => ha c (by simp [hc])
    simp only [memInsert]
    split
    · next hlt =>
      refine List.pairwise_cons.2 ⟨fun c hc => ?_, List.pairwise_cons.2 h⟩
      rcases List.mem_cons.1 hc with rfl | hc
      · exact hlt
      · exact lt_trans hlt (h.1 c hc)
    · next hge =>
      refine List.pairwise_cons.2 ⟨fun c hc => ?_, ih h.2 hrest⟩
      rcases mem_memInsert hc with rfl | hc
      · simp only; omega
      · exact h.1 c hc

/-- A write at an address below the size keeps the canonical form. -/
theorem memWrite_wf {n : Nat} {m : Memory} (a : Nat) (v : Byte) (hm : Memory.wf n m = true) (ha : a < n) :
    Memory.wf n (memWrite m a v) = true := by
  rw [Memory.wf_iff] at hm ⊢
  have hp := memErase_pairwise a hm.1
  have he : ∀ c ∈ memErase m a, c.1 < n ∧ c.2 ≠ erasedByte := fun c hc => hm.2 c (fst_ne_of_mem_memErase hc).1
  unfold memWrite
  split
  · exact ⟨hp, he⟩
  · next hv =>
    refine ⟨memInsert_pairwise hp fun c hc => (fst_ne_of_mem_memErase hc).2, fun c hc => ?_⟩
    rcases mem_memInsert hc with rfl | hc
    · exact ⟨ha, hv⟩
    · exact he c hc

/-- The memory after reset is in canonical form. -/
theorem reset_memory_wf : Memory.wf (nvmSize State.reset) State.reset.nvm = true := by decide

/-- A narrowed address is below `NVM_SIZE`, for the address widths R9 admits. -/
theorem narrowAddr_lt {p : Params} (a : Word) : (narrowAddr p a).toNat < 2 ^ p.nvmAddrBits := by
  rw [narrowAddr, BitVec.toNat_ofNat]
  exact lt_of_le_of_lt (Nat.mod_le _ _) (Nat.mod_lt _ (by positivity))

/-- Narrowing twice is narrowing once. -/
@[simp] theorem narrowAddr_narrowAddr (p : Params) (a : Word) :
    narrowAddr p (narrowAddr p a) = narrowAddr p a := by
  apply BitVec.eq_of_toNat_eq
  have h := narrowAddr_lt (p := p) a
  rw [narrowAddr, BitVec.toNat_ofNat, Nat.mod_eq_of_lt h]
  exact Nat.mod_eq_of_lt (narrowAddr p a).isLt

end Sys2Proof.Machine
end

