-- ==== Sys2Proof/Laws/Operands.lean ====
section
/-! SUPPORT. The address register as numbers: the two bytes of a word, narrowing to NVM_ADDR_BITS, and what the two
address writes of an accessor leave in NVADR. -/

namespace Sys2Proof.Machine

theorem toNat_append_bytes (h l : Byte) : (h ++ l : Word).toNat = h.toNat * 256 + l.toNat := by
  have e : (h ++ l : Word).toNat = (h ++ l).toNat := rfl
  rw [e, BitVec.toNat_append, ← Nat.shiftLeft_add_eq_or_of_lt l.isLt, Nat.shiftLeft_eq]

theorem toNat_loByte (a : Word) : (loByte a).toNat = a.toNat % 256 := by simp [loByte]

theorem toNat_hiByte (a : Word) : (hiByte a).toNat = a.toNat / 256 := by
  have h := a.isLt
  simp only [hiByte, BitVec.extractLsb'_toNat, Nat.shiftRight_eq_div_pow]
  omega

theorem toNat_narrowAddr (p : Params) (a : Word) : (narrowAddr p a).toNat = a.toNat % 2 ^ p.nvmAddrBits := by
  rw [narrowAddr, BitVec.toNat_ofNat]
  exact Nat.mod_eq_of_lt (lt_of_le_of_lt (Nat.mod_le _ _) a.isLt)

@[simp] theorem hiByte_append_loByte (a : Word) : (hiByte a ++ loByte a : Word) = a := by
  apply BitVec.eq_of_toNat_eq
  rw [toNat_append_bytes, toNat_hiByte, toNat_loByte]
  omega

/-- The low byte survives narrowing as far as a second narrowing can see. -/
theorem mod_low_byte (n a h l : Nat) (hl : l < 256) :
    (h * 256 + (a * 256 + l) % 2 ^ n % 256) % 2 ^ n = (h * 256 + l) % 2 ^ n := by
  by_cases hn : n ≤ 8
  · have hd : 2 ^ n ∣ 256 := Nat.pow_dvd_pow 2 hn
    have e1 : (a * 256 + l) % 2 ^ n % 256 = l % 2 ^ n := by
      obtain ⟨k, hk⟩ := hd
      have hlt : l % 2 ^ n < 256 := lt_of_le_of_lt (Nat.mod_le _ _) hl
      rw [show a * 256 + l = l + 2 ^ n * (a * k) by rw [hk]; ring, Nat.add_mul_mod_self_left, Nat.mod_eq_of_lt hlt]
    rw [e1, Nat.add_mod, Nat.mod_mod, ← Nat.add_mod]
  · have hd : 256 ∣ 2 ^ n := Nat.pow_dvd_pow 2 (show 8 ≤ n by omega)
    have e1 : (a * 256 + l) % 2 ^ n % 256 = l := by
      rw [Nat.mod_mod_of_dvd _ hd]
      omega
    rw [e1]

/-- Setting the low byte and then the high byte of an address sets NVADR to that address, narrowed (R80, R89). -/
theorem setAddrHigh_setAddrLow_nvadr (a : Word) (s : State) :
    (setAddrHigh (hiByte a) (setAddrLow (loByte a) s)).nvadr = narrowAddr s.params a := by
  apply BitVec.eq_of_toNat_eq
  simp only [setAddrHigh_nvadr, setAddrLow_params, nvAddr, setAddrLow_nvadr, narrowAddr_narrowAddr, toNat_narrowAddr,
    toNat_append_bytes, toNat_loByte, toNat_hiByte]
  rw [mod_low_byte _ _ _ _ (Nat.mod_lt _ (by norm_num))]
  congr 1
  omega

end Sys2Proof.Machine
end

