-- ==== Sys2Proof/Laws/PerInstr.lean ====
section
/-! SUPPORT. One law per instruction: its word has the bits that its row of spec/opcode_table.json fixes. -/

namespace Sys2Proof.Laws.TableRow

/-- The columns `match` and `mask` of an instruction's row; the two combinational functions have neither. -/
def row : Instr → Word × Word
  | .nop => (0x0000#16, 0xFFFF#16)
  | .wrNvcrClr => (0x1000#16, 0xFFFF#16)
  | .wrNvcrRe => (0x1001#16, 0xFFFF#16)
  | .wrNvcrWs => (0x1002#16, 0xFFFF#16)
  | .wrNvcrWe => (0x1004#16, 0xFFFF#16)
  | .wrNvdat _ => (0x1100#16, 0xFF00#16)
  | .wrNvadrl _ => (0x1200#16, 0xFF00#16)
  | .wrNvadrh _ => (0x1300#16, 0xFF00#16)
  | .wrDisp _ => (0x1400#16, 0xFF00#16)
  | .wrDir _ => (0x1700#16, 0xFF00#16)
  | .wrIcr _ => (0x1500#16, 0xFFF8#16)
  | .wrrNvdat _ => (0x2100#16, 0xFFFE#16)
  | .wrrNvadrl _ => (0x2200#16, 0xFFFE#16)
  | .wrrNvadrh _ => (0x2300#16, 0xFFFE#16)
  | .wrrDisp _ => (0x2400#16, 0xFFFE#16)
  | .wrrDir _ => (0x2700#16, 0xFFFE#16)
  | .rdNvcr _ => (0x3000#16, 0xFFFE#16)
  | .rdNvdat _ => (0x3100#16, 0xFFFE#16)
  | .rdNvadrl _ => (0x3200#16, 0xFFFE#16)
  | .rdNvadrh _ => (0x3300#16, 0xFFFE#16)
  | .rdDisp _ => (0x3400#16, 0xFFFE#16)
  | .rdIcr _ => (0x3500#16, 0xFFFE#16)
  | .rdStat _ => (0x3600#16, 0xFFFE#16)
  | .rdDir _ => (0x3700#16, 0xFFFE#16)
  | .waitrdy => (0x4000#16, 0xFFFF#16)
  | .inc => (0x4100#16, 0xFFFF#16)
  | .flipt => (0x4300#16, 0xFFFF#16)
  | .tgls => (0x4400#16, 0xFFFF#16)
  | .cliSave => (0x4500#16, 0xFFFF#16)
  | .iRestore => (0x4600#16, 0xFFFF#16)
  | .reti => (0x4700#16, 0xFFFF#16)
  | .idle => (0x4800#16, 0xFFFF#16)
  | .encout _ => (0x4200#16, 0xFFFE#16)
  | .evEdge => (0x8000#16, 0xFFFF#16)
  | .evCommit => (0x8100#16, 0xFFFF#16)
  | .evPgmset => (0x8200#16, 0xFFFF#16)
  | .evPgmclr => (0x8300#16, 0xFFFF#16)
  | .evReset => (0x8400#16, 0xFFFF#16)
  | .segEncode _ => (0x0000#16, 0x0000#16)
  | .segOutpat _ => (0x0000#16, 0x0000#16)

/-- The word of a well-formed instruction, if it has one, agrees with its row of the table on the row's fixed bits. -/
def Statement (i : Instr) : Prop :=
  wellFormed i = true → ∀ w, encode i = some w → w &&& (row i).2 = (row i).1

/-- Clearing DATA keeps CLASS and SEL. -/
theorem mopWord_and_upper (c s : BitVec 4) (d : Byte) : mopWord c s d &&& 0xFF00#16 = mopWord c s 0#8 := by
  apply BitVec.eq_of_getLsbD_eq
  intro i hi
  rw [BitVec.getLsbD_and, getLsbD_mopWord, getLsbD_mopWord]
  by_cases h : i < 8
  · interval_cases i <;> simp
  · have hm : (0xFF00#16 : Word).getLsbD i = true := by interval_cases i <;> first | omega | rfl
    simp [h, hm]

theorem statement_of_upper {i : Instr} {c s : BitVec 4} {d : Byte} (he : encode i = some (mopWord c s d))
    (hr : row i = (mopWord c s 0#8, 0xFF00#16)) : Statement i := by
  intro _ w hw
  rw [he, Option.some.injEq] at hw
  rw [← hw, hr, mopWord_and_upper]

/-- A law about a working-register operand holds if it holds for CUR and for NXT. -/
theorem statement_of_both {f : WReg → Instr} (hc : Statement (f .cur)) (hn : Statement (f .nxt)) (r : WReg) :
    Statement (f r) := by
  cases r
  · exact hc
  · exact hn

/-- An instruction without operands: its word is its row's. -/
theorem statement_of_word {i : Instr} {w : Word} (he : encode i = some w) (h : w &&& (row i).2 = (row i).1) :
    Statement i := by
  intro _ w' hw
  rw [he, Option.some.injEq] at hw
  rw [← hw, h]

theorem nop : Statement .nop := statement_of_word rfl (by decide)
theorem wrNvcrClr : Statement .wrNvcrClr := statement_of_word rfl (by decide)
theorem wrNvcrRe : Statement .wrNvcrRe := statement_of_word rfl (by decide)
theorem wrNvcrWs : Statement .wrNvcrWs := statement_of_word rfl (by decide)
theorem wrNvcrWe : Statement .wrNvcrWe := statement_of_word rfl (by decide)
theorem wrNvdat (imm : Byte) : Statement (.wrNvdat imm) := statement_of_upper rfl rfl
theorem wrNvadrl (imm : Byte) : Statement (.wrNvadrl imm) := statement_of_upper rfl rfl
theorem wrNvadrh (imm : Byte) : Statement (.wrNvadrh imm) := statement_of_upper rfl rfl
theorem wrDisp (imm : Byte) : Statement (.wrDisp imm) := statement_of_upper rfl rfl
theorem wrDir (imm : Byte) : Statement (.wrDir imm) := statement_of_upper rfl rfl
theorem wrIcr (imm : Byte) : Statement (.wrIcr imm) := by
  intro hwf w hw
  simp only [encode, Option.some.injEq] at hw
  subst hw
  have h : imm.extractLsb' 3 5 = 0#5 := by simpa [wellFormed] using hwf
  revert h
  revert imm
  decide
theorem wrrNvdat (r : WReg) : Statement (.wrrNvdat r) :=
  statement_of_both (statement_of_word rfl (by decide)) (statement_of_word rfl (by decide)) r
theorem wrrNvadrl (r : WReg) : Statement (.wrrNvadrl r) :=
  statement_of_both (statement_of_word rfl (by decide)) (statement_of_word rfl (by decide)) r
theorem wrrNvadrh (r : WReg) : Statement (.wrrNvadrh r) :=
  statement_of_both (statement_of_word rfl (by decide)) (statement_of_word rfl (by decide)) r
theorem wrrDisp (r : WReg) : Statement (.wrrDisp r) :=
  statement_of_both (statement_of_word rfl (by decide)) (statement_of_word rfl (by decide)) r
theorem wrrDir (r : WReg) : Statement (.wrrDir r) :=
  statement_of_both (statement_of_word rfl (by decide)) (statement_of_word rfl (by decide)) r
theorem rdNvcr (r : WReg) : Statement (.rdNvcr r) :=
  statement_of_both (statement_of_word rfl (by decide)) (statement_of_word rfl (by decide)) r
theorem rdNvdat (r : WReg) : Statement (.rdNvdat r) :=
  statement_of_both (statement_of_word rfl (by decide)) (statement_of_word rfl (by decide)) r
theorem rdNvadrl (r : WReg) : Statement (.rdNvadrl r) :=
  statement_of_both (statement_of_word rfl (by decide)) (statement_of_word rfl (by decide)) r
theorem rdNvadrh (r : WReg) : Statement (.rdNvadrh r) :=
  statement_of_both (statement_of_word rfl (by decide)) (statement_of_word rfl (by decide)) r
theorem rdDisp (r : WReg) : Statement (.rdDisp r) :=
  statement_of_both (statement_of_word rfl (by decide)) (statement_of_word rfl (by decide)) r
theorem rdIcr (r : WReg) : Statement (.rdIcr r) :=
  statement_of_both (statement_of_word rfl (by decide)) (statement_of_word rfl (by decide)) r
theorem rdStat (r : WReg) : Statement (.rdStat r) :=
  statement_of_both (statement_of_word rfl (by decide)) (statement_of_word rfl (by decide)) r
theorem rdDir (r : WReg) : Statement (.rdDir r) :=
  statement_of_both (statement_of_word rfl (by decide)) (statement_of_word rfl (by decide)) r
theorem waitrdy : Statement .waitrdy := statement_of_word rfl (by decide)
theorem inc : Statement .inc := statement_of_word rfl (by decide)
theorem flipt : Statement .flipt := statement_of_word rfl (by decide)
theorem tgls : Statement .tgls := statement_of_word rfl (by decide)
theorem cliSave : Statement .cliSave := statement_of_word rfl (by decide)
theorem iRestore : Statement .iRestore := statement_of_word rfl (by decide)
theorem reti : Statement .reti := statement_of_word rfl (by decide)
theorem idle : Statement .idle := statement_of_word rfl (by decide)
theorem encout (r : WReg) : Statement (.encout r) :=
  statement_of_both (statement_of_word rfl (by decide)) (statement_of_word rfl (by decide)) r
theorem evEdge : Statement .evEdge := statement_of_word rfl (by decide)
theorem evCommit : Statement .evCommit := statement_of_word rfl (by decide)
theorem evPgmset : Statement .evPgmset := statement_of_word rfl (by decide)
theorem evPgmclr : Statement .evPgmclr := statement_of_word rfl (by decide)
theorem evReset : Statement .evReset := statement_of_word rfl (by decide)
theorem segEncode (d : Byte) : Statement (.segEncode d) := fun _ _ hw => by simp [encode] at hw
theorem segOutpat (s : Byte) : Statement (.segOutpat s) := fun _ _ hw => by simp [encode] at hw

end Sys2Proof.Laws.TableRow
end

