-- ==== Sys2Proof/Laws/Step.lean ====
section
/-! SUPPORT. The step, taken apart by whose turn it is; the words of the fixed micro-programs as MOPs; and the placing
of an instruction for the next step. -/

namespace Sys2Proof.Machine

theorem step_no_turn {s : State} (h : s.turns = []) : step s = seqStep s := by simp [step, runTurn, h]

theorem step_seq_turn {s : State} {rest : List Turn} (h : s.turns = .seq :: rest) :
    step s = seqStep { s with turns := rest } := by simp [step, runTurn, h]

theorem step_env_turn {s : State} {e : Event} {rest : List Turn} (h : s.turns = .env e :: rest) :
    step s = exec (eventInstr e) { s with turns := rest } := by simp [step, runTurn, h]

/-- Every step is SEQ's or ENV's, on the state without the turn it takes. -/
theorem step_cases (s : State) :
    (∃ u, (s.turns = [] ∨ s.turns = .seq :: u.turns) ∧ u = { s with turns := u.turns } ∧ step s = seqStep u) ∨
      ∃ e u, s.turns = .env e :: u.turns ∧ u = { s with turns := u.turns } ∧ step s = exec (eventInstr e) u := by
  cases h : s.turns with
  | nil => exact .inl ⟨s, .inl rfl, rfl, step_no_turn h⟩
  | cons t rest =>
    cases t with
    | seq => exact .inl ⟨{ s with turns := rest }, .inr rfl, rfl, step_seq_turn h⟩
    | env e => exact .inr ⟨e, { s with turns := rest }, rfl, rfl, step_env_turn h⟩

/-- Everything a SEQ step that answers a next state can be (R162): the machine has not stopped, and the step is
interrupt entry, the end of the program, a refusal, or the MOP at the counter. -/
theorem seqStep_cases {s t : State} (h : seqStep s = .next t) :
    s.fault = none ∧ s.refused = false ∧
      ((irq s = true ∧ t = interruptEntry s) ∨
        (irq s = false ∧ fetchWord s = none ∧ t = runOffEnd s) ∨
        (irq s = false ∧ ∃ w, fetchWord s = some w ∧ (∀ i, decode w ≠ .mop i) ∧ t = refuse s) ∨
        (irq s = false ∧ ∃ w i, fetchWord s = some w ∧ decode w = .mop i ∧ exec i s = .next t)) := by
  unfold seqStep at h
  cases hf : s.fault with
  | some r => simp [hf] at h
  | none =>
    cases hr : s.refused with
    | true => simp [hf, hr] at h
    | false =>
      simp only [hf, hr, Bool.false_eq_true, if_false, runSequencer] at h
      refine ⟨rfl, rfl, ?_⟩
      cases hi : irq s with
      | true => simp only [hi, if_true, Host.Outcome.next.injEq] at h; exact .inl ⟨rfl, h.symm⟩
      | false =>
        simp only [hi, Bool.false_eq_true, if_false] at h
        cases hw : fetchWord s with
        | none => simp only [hw, Host.Outcome.next.injEq] at h; exact .inr (.inl ⟨rfl, rfl, h.symm⟩)
        | some w =>
          simp only [hw, runWord] at h
          cases hd : decode w with
          | mop i => simp only [hd] at h; exact .inr (.inr (.inr ⟨rfl, w, i, rfl, hd, h⟩))
          | event e =>
            simp only [hd, Host.Outcome.next.injEq] at h
            exact .inr (.inr (.inl ⟨rfl, w, rfl, by simp [hd], h.symm⟩))
          | reserved c =>
            simp only [hd, Host.Outcome.next.injEq] at h
            exact .inr (.inr (.inl ⟨rfl, w, rfl, by simp [hd], h.symm⟩))

/-- Every word of HANDLER_ROM decodes to the MOP beside it (R190). -/
theorem handlerRom_decode (p : Params) : (handlerRom p).map decode = (handlerMops p).map .mop := by
  simp only [handlerRom, handlerMops, nvRead, nvWrite, nvWriteBy, List.map_cons, List.map_nil,
    List.cons_append, List.nil_append, decode_wordOf_nvadrl, decode_wordOf_nvadrh]
  rfl

/-- Every word of BOOT_ROM decodes to the MOP beside it (R191). -/
theorem bootRom_decode (p : Params) : (bootRom p).map decode = (bootMops p).map .mop := by
  simp only [bootRom, bootMops, nvRead, arm, List.map_cons, List.map_nil, List.cons_append,
    List.nil_append, decode_wordOf_nvadrl, decode_wordOf_nvadrh, decode_wordOf_dir]
  rfl

theorem placeWord_getElem? (l : List Word) (n : Nat) (w : Word) : (placeWord l n w)[n]? = some w := by
  induction n generalizing l with
  | zero => cases l <;> simp [placeWord]
  | succ n ih => cases l <;> simp [placeWord, ih]

/-- The step after a MOP is placed runs exactly it. -/
theorem step_placeMop {w : Word} {i : Instr} (s : State) (h : decode w = .mop i) :
    step (placeMop w s) = exec i { placeMop w s with turns := s.turns } := by
  rw [step_seq_turn (rest := s.turns) rfl]
  have hirq : irq { placeMop w s with turns := s.turns } = false := by
    rw [Bool.eq_false_iff, ne_eq, irq_iff]
    rintro ⟨hc, hi, hg, hp, hpend⟩
    simp only [placeMop] at hc hi hg hp hpend
    simp [irq, hc, hi, hg, hp] at hpend
  have hfetch : fetchWord { placeMop w s with turns := s.turns } = some w := by
    cases hc : s.ctx <;> simp [fetchWord, runningProgram, upc, placeMop, hc, placeWord_getElem?]
  unfold seqStep runSequencer
  rw [hirq, hfetch]
  simp [runWord, h, placeMop]

/-- The next step after `withFetchWord` runs the MOP that the decoder reads from the word. -/
theorem step_withFetchWord_mop {nbits w : Nat} {i : Instr} (s : State)
    (h : decode (BitVec.ofNat 16 (w % 2 ^ nbits)) = .mop i) :
    ∃ u, step (s.withFetchWord nbits w) = exec i u := by
  simp only [State.withFetchWord, placeNext, h]
  exact ⟨_, step_placeMop s h⟩

/-- The next step after `withFetchWord` delivers the event that the decoder reads from the word. -/
theorem step_withFetchWord_event {nbits w : Nat} {e : Event} (s : State)
    (h : decode (BitVec.ofNat 16 (w % 2 ^ nbits)) = .event e) :
    step (s.withFetchWord nbits w) = exec (eventInstr e) s := by
  simp only [State.withFetchWord, placeNext, h]
  exact step_env_turn rfl

end Sys2Proof.Machine
end

