-- ==== Sys2Proof/Machine/Asm.lean ====
section
/-! DEFINITION. The assembler's text of an instruction (R88), one MOP per line, immediates in hexadecimal; the word it
stands for is `encode` of the instruction. The combinational functions are no MOPs (R85) and are written as calls. -/

namespace Sys2Proof.Machine

/-- One hexadecimal digit. -/
def hexDigit (n : BitVec 4) : Char := "0123456789ABCDEF".toList.getD n.toNat '0'

/-- An 8-bit immediate, `0x..` (R13, R88). -/
def hexByte (v : Byte) : String := String.ofList ['0', 'x', hexDigit (v.extractLsb' 4 4), hexDigit (v.extractLsb' 0 4)]

/-- A working register's name (R74). -/
def workingName : WReg → String
  | .cur => "CUR"
  | .nxt => "NXT"

/-- A bus write of an immediate, `WR <reg>, <imm8>`. -/
def wrText (reg : String) (imm : Byte) : String := "WR " ++ reg ++ ", " ++ hexByte imm

/-- A bus write from a working register, `WRR <reg>, <r>`. -/
def wrrText (reg : String) (r : WReg) : String := "WRR " ++ reg ++ ", " ++ workingName r

/-- A bus read, `RD <r>, <reg>`. -/
def rdText (reg : String) (r : WReg) : String := "RD " ++ workingName r ++ ", " ++ reg

/-- The syntax column of R88. -/
def asmText : Instr → String
  | .nop => "NOP"
  | .wrNvcrClr => "WR NVCR, CLR"
  | .wrNvcrRe => "WR NVCR, RE"
  | .wrNvcrWs => "WR NVCR, WS"
  | .wrNvcrWe => "WR NVCR, WE"
  | .wrNvdat imm => wrText "NVDAT" imm
  | .wrNvadrl imm => wrText "NVADRL" imm
  | .wrNvadrh imm => wrText "NVADRH" imm
  | .wrDisp imm => wrText "DISP" imm
  | .wrDir imm => wrText "DIR" imm
  | .wrIcr imm => wrText "ICR" imm
  | .wrrNvdat r => wrrText "NVDAT" r
  | .wrrNvadrl r => wrrText "NVADRL" r
  | .wrrNvadrh r => wrrText "NVADRH" r
  | .wrrDisp r => wrrText "DISP" r
  | .wrrDir r => wrrText "DIR" r
  | .rdNvcr r => rdText "NVCR" r
  | .rdNvdat r => rdText "NVDAT" r
  | .rdNvadrl r => rdText "NVADRL" r
  | .rdNvadrh r => rdText "NVADRH" r
  | .rdDisp r => rdText "DISP" r
  | .rdIcr r => rdText "ICR" r
  | .rdStat r => rdText "STAT" r
  | .rdDir r => rdText "DIR" r
  | .waitrdy => "WAITRDY"
  | .inc => "INC"
  | .flipt => "FLIPT"
  | .tgls => "TGLS"
  | .cliSave => "CLI_SAVE"
  | .iRestore => "I_RESTORE"
  | .reti => "RETI"
  | .idle => "IDLE"
  | .encout r => "ENCOUT " ++ workingName r
  | .evEdge => "@EDGE"
  | .evCommit => "@COMMIT"
  | .evPgmset => "@PGMSET"
  | .evPgmclr => "@PGMCLR"
  | .evReset => "@RESET"
  | .segEncode d => "ENCODE(" ++ hexByte d ++ ")"
  | .segOutpat g => "OUTPAT(" ++ hexByte g ++ ")"

end Sys2Proof.Machine
end

