-- ==== Sys2Proof/Tests/Slice0.lean ====
section
/-! SUPPORT. Small tests of the model. The expected results are the spec's own: the encoding tables of 30_encoding.md,
the vectors of 95_test_vectors.md (named in each test's comment) and the examples of the instruction rules. The last part
shows, for each statement of Certificates/Slice0/Obligations.lean with hypotheses, values that meet them. -/

namespace Sys2Proof.Tests

open Sys2Proof.Machine Sys2Proof.Claims

/-- The answer is a next state that passes the check. -/
def nextIs (check : State → Bool) : Answer → Bool
  | .next t => check t
  | .fault _ => false
  | .refused _ => false

/-- The answer is a next state whose FAULT is of the kind. -/
def faultsWith (k : FaultKind) : Answer → Bool :=
  nextIs fun t => match t.fault with
    | some r => decide (r.kind = k)
    | none => false

/-- The reset state with another MAIN_PROGRAM (R12). -/
def harness (prog : List Word) : State := { State.reset with mainProgram := prog }

/-- A small state of the interrupt context. -/
def inHandler : State := { State.reset with ctx := .isr }

/-- A small state with a written CUR and NXT. -/
def withRegs (c n : Byte) : State := { State.reset with cur := some c, nxt := some n }

/-- `k` steps from a state. -/
def stepsFrom : Nat → State → Answer
  | 0, s => .next s
  | k + 1, s => match step s with
    | .next t => stepsFrom k t
    | .fault r => .fault r
    | .refused r => .refused r

/-! ### Well-formedness: an ill-formed term for each check -/

theorem test_wrIcr_high_bits_ill_formed : wellFormed (.wrIcr 0x08#8) = false := by decide
theorem test_wrIcr_low_bits_well_formed : wellFormed (.wrIcr 0x07#8) = true := by decide
theorem test_default_params_ok : paramsOk defaultParams = true := by decide
/-- R104: the default table meets R6 for both values of CMPL_DOT. -/
theorem test_default_params_dot_ok :
    paramsOk { defaultParams with segLut := defaultSegLut true, cmplDot := true } = true := by decide
theorem test_equal_glyphs_refused :
    glyphsDistinct { defaultParams with segLut := (defaultSegLut false).set 3 0x3F#8 } = false := by decide
theorem test_wrong_dot_refused : dotAsDeclared { defaultParams with cmplDot := true } = false := by decide
theorem test_seventeen_address_bits_refused :
    addrBitsInRange { defaultParams with nvmAddrBits := 17 } = false := by decide
theorem test_slot_outside_refused : slotInRange { defaultParams with slotAddr := 0x200#16 } = false := by decide

/-! ### Decoding: one word per constructor, written out from R72 to R88, bit fields CLASS, SEL, DATA -/

theorem test_decode_nop : decode 0b0000000000000000#16 = .mop .nop := by decide
theorem test_decode_wrNvcrClr : decode 0b0001000000000000#16 = .mop .wrNvcrClr := by decide
theorem test_decode_wrNvcrRe : decode 0b0001000000000001#16 = .mop .wrNvcrRe := by decide
theorem test_decode_wrNvcrWs : decode 0b0001000000000010#16 = .mop .wrNvcrWs := by decide
theorem test_decode_wrNvcrWe : decode 0b0001000000000100#16 = .mop .wrNvcrWe := by decide
theorem test_decode_wrNvdat : decode 0b0001000110100101#16 = .mop (.wrNvdat 0xA5#8) := by decide
theorem test_decode_wrNvadrl : decode 0b0001001011110000#16 = .mop (.wrNvadrl 0xF0#8) := by decide
theorem test_decode_wrNvadrh : decode 0b0001001100000001#16 = .mop (.wrNvadrh 0x01#8) := by decide
theorem test_decode_wrDisp : decode 0b0001010011111110#16 = .mop (.wrDisp 0xFE#8) := by decide
theorem test_decode_wrDir : decode 0b0001011100111111#16 = .mop (.wrDir 0x3F#8) := by decide
theorem test_decode_wrIcr : decode 0b0001010100000111#16 = .mop (.wrIcr 0x07#8) := by decide
theorem test_decode_wrrNvdat : decode 0b0010000100000001#16 = .mop (.wrrNvdat .nxt) := by decide
theorem test_decode_wrrNvadrl : decode 0b0010001000000000#16 = .mop (.wrrNvadrl .cur) := by decide
theorem test_decode_wrrNvadrh : decode 0b0010001100000001#16 = .mop (.wrrNvadrh .nxt) := by decide
theorem test_decode_wrrDisp : decode 0b0010010000000000#16 = .mop (.wrrDisp .cur) := by decide
theorem test_decode_wrrDir : decode 0b0010011100000001#16 = .mop (.wrrDir .nxt) := by decide
theorem test_decode_rdNvcr : decode 0b0011000000000001#16 = .mop (.rdNvcr .nxt) := by decide
theorem test_decode_rdNvdat : decode 0b0011000100000000#16 = .mop (.rdNvdat .cur) := by decide
theorem test_decode_rdNvadrl : decode 0b0011001000000001#16 = .mop (.rdNvadrl .nxt) := by decide
theorem test_decode_rdNvadrh : decode 0b0011001100000000#16 = .mop (.rdNvadrh .cur) := by decide
theorem test_decode_rdDisp : decode 0b0011010000000001#16 = .mop (.rdDisp .nxt) := by decide
theorem test_decode_rdIcr : decode 0b0011010100000000#16 = .mop (.rdIcr .cur) := by decide
theorem test_decode_rdStat : decode 0b0011011000000001#16 = .mop (.rdStat .nxt) := by decide
theorem test_decode_rdDir : decode 0b0011011100000000#16 = .mop (.rdDir .cur) := by decide
theorem test_decode_waitrdy : decode 0b0100000000000000#16 = .mop .waitrdy := by decide
theorem test_decode_inc : decode 0b0100000100000000#16 = .mop .inc := by decide
theorem test_decode_encout : decode 0b0100001000000001#16 = .mop (.encout .nxt) := by decide
theorem test_decode_flipt : decode 0b0100001100000000#16 = .mop .flipt := by decide
theorem test_decode_tgls : decode 0b0100010000000000#16 = .mop .tgls := by decide
theorem test_decode_cliSave : decode 0b0100010100000000#16 = .mop .cliSave := by decide
theorem test_decode_iRestore : decode 0b0100011000000000#16 = .mop .iRestore := by decide
theorem test_decode_reti : decode 0b0100011100000000#16 = .mop .reti := by decide
theorem test_decode_idle : decode 0b0100100000000000#16 = .mop .idle := by decide
theorem test_decode_edge : decode 0b1000000000000000#16 = .event .edge := by decide
theorem test_decode_commit : decode 0b1000000100000000#16 = .event .commit := by decide
theorem test_decode_pgmset : decode 0b1000001000000000#16 = .event .pgmset := by decide
theorem test_decode_pgmclr : decode 0b1000001100000000#16 = .event .pgmclr := by decide
theorem test_decode_reset : decode 0b1000010000000000#16 = .event .reset := by decide

/-! ### Reserved words: vectors X2 to X19 of 95_test_vectors.md, one per condition of R86 -/

theorem test_reserved_X2 : decode 0x0001#16 = .reserved .nopNotZero := by decide
theorem test_reserved_X3 : decode 0x1006#16 = .reserved .strobeValue := by decide
theorem test_reserved_X4 : decode 0x1008#16 = .reserved .strobeValue := by decide
theorem test_reserved_X5 : decode 0x1508#16 = .reserved .icrHighBits := by decide
theorem test_reserved_X6 : decode 0x1600#16 = .reserved .statWrite := by decide
theorem test_reserved_X7 : decode 0x1800#16 = .reserved .noSuchRegister := by decide
theorem test_reserved_X8 : decode 0x2000#16 = .reserved .wrrNotAllowed := by decide
theorem test_reserved_X9 : decode 0x2500#16 = .reserved .wrrNotAllowed := by decide
theorem test_reserved_X10 : decode 0x2102#16 = .reserved .operandBits := by decide
theorem test_reserved_X12 : decode 0x3702#16 = .reserved .operandBits := by decide
theorem test_reserved_X13 : decode 0x4001#16 = .reserved .actionData := by decide
theorem test_reserved_X15 : decode 0x4202#16 = .reserved .encoutOperand := by decide
theorem test_reserved_X16 : decode 0x4900#16 = .reserved .noSuchAction := by decide
theorem test_reserved_X17a : decode 0x5000#16 = .reserved .noSuchClass := by decide
theorem test_reserved_X17b : decode 0x7FFF#16 = .reserved .noSuchClass := by decide
theorem test_reserved_X17c : decode 0x9000#16 = .reserved .noSuchClass := by decide
theorem test_reserved_X17d : decode 0xFFFF#16 = .reserved .noSuchClass := by decide
theorem test_reserved_X19a : decode 0x8500#16 = .reserved .eventForm := by decide
theorem test_reserved_X19b : decode 0x8001#16 = .reserved .eventForm := by decide

theorem test_decodeTableWord_inc : decodeTableWord 16 0x4100 = some .inc := by decide
theorem test_decodeTableWord_edge : decodeTableWord 16 0x8000 = some .evEdge := by decide
theorem test_decodeTableWord_reserved : decodeTableWord 16 0x4900 = none := by decide

/-! ### The micro-programs (R190, R191) and the assembler text (R88) -/

theorem test_handlerRom_words : (handlerRom defaultParams).take 9 =
    [0x4300#16, 0x4400#16, 0x4500#16, 0x4000#16, 0x1200#16, 0x1300#16, 0x1001#16, 0x3100#16, 0x4600#16] := by decide
theorem test_handlerRom_length : (handlerRom defaultParams).length = 20 := by decide
/-- P1's words. -/
theorem test_bootRom_words : bootRom defaultParams =
    [0x17FF#16, 0x4500#16, 0x4000#16, 0x1200#16, 0x1300#16, 0x1001#16, 0x3100#16, 0x4600#16, 0x4200#16, 0x1501#16,
     0x1503#16, 0x1507#16, 0x4800#16] := by decide
/-- With SLOT_ADDR = 0x1F0, `ll` is 0xF0 and `hh` is 0x01. -/
theorem test_slot_bytes_in_handler :
    ((handlerRom { defaultParams with slotAddr := 0x1F0#16 }).drop 12).take 2 = [0x12F0#16, 0x1301#16] := by decide
/-- R90: `NV_WRITE NXT`, with SLOT_ADDR = 0. -/
theorem test_nvWrite_words : (nvWrite defaultParams .nxt).map encode =
    [0x4500#16, 0x4000#16, 0x1200#16, 0x1300#16, 0x2101#16, 0x1004#16, 0x1002#16, 0x4600#16].map some := by decide
/-- R90: `NV_WRITE #imm` has `0x11ii` in place of the WRR. -/
theorem test_nvWriteImm_word : ((nvWriteImm defaultParams 0x5A#8).map encode)[4]? = some (some 0x115A#16) := by decide
theorem test_asm_wr : asmText (.wrNvadrl 0xF0#8) = "WR NVADRL, 0xF0" := by decide
theorem test_asm_rd : asmText (.rdStat .nxt) = "RD NXT, STAT" := by decide

/-! ### NVM -/

theorem test_memWrite_sorted : memWrite [(1, 0x11#8), (5, 0x55#8)] 3 0x33#8 = [(1, 0x11#8), (3, 0x33#8), (5, 0x55#8)] := by
  decide
theorem test_memWrite_erased_removes : memWrite [(1, 0x11#8), (5, 0x55#8)] 5 0xFF#8 = [(1, 0x11#8)] := by decide
theorem test_memRead_unlisted : memRead [(1, 0x11#8)] 2 = 0xFF#8 := by decide

/-! ### SEGENC: vectors E0 to E18 and O1 to O4 -/

theorem test_encode_default : ([0, 1, 2, 3, 4, 5, 6, 7, 8, 9].map fun d => encodeDigit defaultParams d) =
    [0x3F#8, 0x06#8, 0x5B#8, 0x4F#8, 0x66#8, 0x6D#8, 0x7D#8, 0x07#8, 0x7F#8, 0x6F#8] := by decide
theorem test_display_default : ([0, 1, 2, 3, 4, 5, 6, 7, 8, 9].map fun d => displayPattern defaultParams d) =
    [0xC0#8, 0xF9#8, 0xA4#8, 0xB0#8, 0x99#8, 0x92#8, 0x82#8, 0xF8#8, 0x80#8, 0x90#8] := by decide
/-- E10 to E12. -/
theorem test_encode_clamps : ([0x0A#8, 0x80#8, 0xFF#8].map fun d => encodeDigit defaultParams d) =
    [0x3F#8, 0x3F#8, 0x3F#8] := by decide
/-- R103's column for CMPL_DOT = 1. -/
theorem test_default_table_dot : (defaultSegLut true).toList =
    [0xBF#8, 0x06#8, 0xDB#8, 0xCF#8, 0xE6#8, 0xED#8, 0xFD#8, 0x07#8, 0xFF#8, 0xEF#8] := by decide
theorem test_exec_segEncode : nextIs (fun t => t.segOut == 0x7F#8) (exec (.segEncode 0x08#8) State.reset) = true := by decide
/-- O1, O2. -/
theorem test_exec_segOutpat : nextIs (fun t => t.segOut == 0xFF#8) (exec (.segOutpat 0x00#8) State.reset) = true := by decide

/-! ### The register bus and the NVM controller: vectors N1 to N24 -/

/-- R122's example. -/
theorem test_wrNvadrl : nextIs (fun t => t.nvadr == 0x1F0#16)
    (exec (.wrNvadrl 0xF0#8) { State.reset with nvadr := 0x100#16 }) = true := by decide
/-- N3: bits 15:9 are dropped. -/
theorem test_wrNvadrh_drops : nextIs (fun t => t.nvadr == 0x1F0#16)
    (exec (.wrNvadrh 0xFF#8) { State.reset with nvadr := 0x0F0#16 }) = true := by decide
/-- N4: NVM_ADDR_BITS = 8. -/
theorem test_wrNvadrh_eight_bits : nextIs (fun t => t.nvadr == 0x12#16)
    (exec (.wrNvadrh 0xFF#8)
      { State.reset with nvadr := 0x12#16, params := { defaultParams with nvmAddrBits := 8 } }) = true := by decide
theorem test_wrNvdat : nextIs (fun t => t.nvdat == 0xA5#8 && t.mpc == 1) (exec (.wrNvdat 0xA5#8) State.reset) = true := by
  decide
/-- N13: the write faults and NVDAT is unchanged. -/
theorem test_wrNvdat_busy : nextIs (fun t => t.nvdat == 0 && t.mpc == 5 && t.fault ==
      some { kind := .nvmcBusy, ctx := .main, upc := 5, word := some 0x1143#16, reg := none })
    (exec (.wrNvdat 0x43#8) { State.reset with busy := true, mpc := 5 }) = true := by decide
/-- R125's example. -/
theorem test_wrNvcrClr : nextIs (fun t => !t.weArmed) (exec .wrNvcrClr { State.reset with weArmed := true }) = true := by decide
/-- N14. -/
theorem test_wrNvcrClr_busy : faultsWith .nvmcBusy (exec .wrNvcrClr { State.reset with busy := true }) = true := by decide
/-- R126's example. -/
theorem test_wrNvcrRe : nextIs (fun t => t.nvdat == 0x07#8)
    (exec .wrNvcrRe { State.reset with nvm := [(0, 0x07#8)] }) = true := by decide
theorem test_wrNvcrWe : nextIs (fun t => t.weArmed) (exec .wrNvcrWe State.reset) = true := by decide
/-- N6: the write is latched, NVM is unchanged. -/
theorem test_wrNvcrWs_accepted : nextIs (fun t => t.busy && !t.weArmed && t.ladr == 0x1F0#16 && t.ldat == 8 && t.nvm == [])
    (exec .wrNvcrWs { State.reset with weArmed := true, nvadr := 0x1F0#16, nvdat := 8 }) = true := by decide
/-- N8: no WE before it. -/
theorem test_wrNvcrWs_ignored : nextIs (fun t => !t.busy && t.fault == none && t.mpc == 1)
    (exec .wrNvcrWs State.reset) = true := by decide
/-- N10: a NOP between WE and WS. -/
theorem test_nop_disarms : nextIs (fun t => !t.busy && t.fault == none && t.mpc == 3)
    (stepsFrom 3 (harness [0x1004#16, 0x0000#16, 0x1002#16])) = true := by decide
theorem test_wrDisp : nextIs (fun t => t.disp == 0xFF#8) (exec (.wrDisp 0xFF#8) State.reset) = true := by decide
theorem test_wrDir : nextIs (fun t => t.dir == 0x3F#8) (exec (.wrDir 0x3F#8) State.reset) = true := by decide
/-- C7: PEND stays, the enables and I follow the bits 0, 1 and 2. -/
theorem test_wrIcr : nextIs (fun t => t.pend && !t.grpEn && !t.pinEn && t.iFlag && !irq t)
    (exec (.wrIcr 0x04#8) { State.reset with pend := true, grpEn := true, pinEn := true }) = true := by decide
/-- C11. -/
theorem test_wrIcr_nest : faultsWith .nest (exec (.wrIcr 0x07#8) inHandler) = true := by decide
/-- R135's example. -/
theorem test_wrrNvdat : nextIs (fun t => t.nvdat == 0x08#8) (exec (.wrrNvdat .nxt) (withRegs 1 8)) = true := by decide
/-- N21: UNWRITTEN comes before NVMC_BUSY. -/
theorem test_wrrNvdat_priority :
    faultsWith .unwritten (exec (.wrrNvdat .cur) { State.reset with busy := true }) = true := by decide
/-- R136's and R137's examples. -/
theorem test_wrrNvadrl : nextIs (fun t => t.nvadr == 0x010#16) (exec (.wrrNvadrl .cur) (withRegs 0x10 0)) = true := by decide
theorem test_wrrNvadrh : nextIs (fun t => t.nvadr == 0x100#16) (exec (.wrrNvadrh .cur) (withRegs 0x01 0)) = true := by decide
/-- R138's and R139's examples. -/
theorem test_wrrDisp : nextIs (fun t => t.disp == 0xC0#8) (exec (.wrrDisp .cur) (withRegs 0xC0 0)) = true := by decide
theorem test_wrrDir : nextIs (fun t => t.dir == 0x3F#8) (exec (.wrrDir .nxt) (withRegs 0 0x3F)) = true := by decide
/-- N12. -/
theorem test_rdNvcr_busy : nextIs (fun t => t.cur == some 0x02#8)
    (exec (.rdNvcr .cur) { State.reset with busy := true }) = true := by decide
/-- N11: the read shows WE_ARMED and disarms it. -/
theorem test_rdNvcr_armed : nextIs (fun t => t.cur == some 0x04#8 && !t.weArmed)
    (exec (.rdNvcr .cur) { State.reset with weArmed := true }) = true := by decide
/-- N15: no busy check on a read. -/
theorem test_rdNvdat : nextIs (fun t => t.cur == some 0x07#8 && t.fault == none)
    (exec (.rdNvdat .cur) { State.reset with nvdat := 0x07, busy := true }) = true := by decide
/-- N2. -/
theorem test_rdNvadrl : nextIs (fun t => t.nxt == some 0xF0#8)
    (exec (.rdNvadrl .nxt) { State.reset with nvadr := 0x1F0#16 }) = true := by decide
theorem test_rdNvadrh : nextIs (fun t => t.nxt == some 0x01#8)
    (exec (.rdNvadrh .nxt) { State.reset with nvadr := 0x1F0#16 }) = true := by decide
theorem test_rdDisp : nextIs (fun t => t.cur == some 0xB0#8)
    (exec (.rdDisp .cur) { State.reset with disp := 0xB0#8 }) = true := by decide
/-- R81's bit places. -/
theorem test_rdIcr : nextIs (fun t => t.cur == some 0x05#8)
    (exec (.rdIcr .cur) { State.reset with iFlag := true, grpEn := true }) = true := by decide
/-- N23. -/
theorem test_rdStat : nextIs (fun t => t.cur == some 0x09#8)
    (exec (.rdStat .cur) { State.reset with tFlag := true, inLine := true }) = true := by decide
theorem test_rdStat_other_bits : nextIs (fun t => t.nxt == some 0x16#8)
    (exec (.rdStat .nxt) { State.reset with pgmBusy := true, pend := true, sLine := true }) = true := by decide
theorem test_rdDir : nextIs (fun t => t.nxt == some 0xFF#8)
    (exec (.rdDir .nxt) { State.reset with dir := 0xFF#8 }) = true := by decide

/-! ### Actions: vectors N16, I1 to I9, C8 to C16 -/

theorem test_waitrdy_holds : nextIs (fun t => t == { State.reset with busy := true, weArmed := true })
    (exec .waitrdy { State.reset with busy := true, weArmed := true }) = true := by decide
theorem test_waitrdy_advances : nextIs (fun t => t.mpc == 1 && !t.weArmed)
    (exec .waitrdy { State.reset with weArmed := true }) = true := by decide
/-- I1 to I8, the EXACT column. -/
theorem test_inc_exact : ([0#8, 7#8, 9#8, 10#8, 15#8, 99#8, 254#8, 255#8].map fun v => incDigit .exact v) =
    [1#8, 8#8, 0#8, 1#8, 6#8, 0#8, 5#8, 6#8] := by decide
/-- I1 to I8, the WRAP8 column. -/
theorem test_inc_wrap8 : ([0#8, 7#8, 9#8, 10#8, 15#8, 99#8, 254#8, 255#8].map fun v => incDigit .wrap8 v) =
    [1#8, 8#8, 0#8, 1#8, 6#8, 0#8, 5#8, 0#8] := by decide
theorem test_inc : nextIs (fun t => t.cur == some 7#8 && t.nxt == some 8#8) (exec .inc (withRegs 7 0)) = true := by decide
/-- I9, C17. -/
theorem test_inc_unwritten : nextIs (fun t => t.fault ==
      some { kind := .unwritten, ctx := .main, upc := 0, word := some 0x4100#16, reg := some .cur })
    (exec .inc State.reset) = true := by decide
/-- C15, C16. -/
theorem test_encout : nextIs (fun t => t.disp == 0x80#8) (exec (.encout .nxt) (withRegs 0 8)) = true := by decide
theorem test_encout_clamps : nextIs (fun t => t.disp == 0xC0#8) (exec (.encout .cur) (withRegs 0x0A 0)) = true := by decide
/-- R170's examples. -/
theorem test_flipt_first : nextIs (fun t => t.tFlag && t.iFlag && t.ctx == .main && t.hpc == 0)
    (exec .flipt inHandler) = true := by decide
theorem test_flipt_second : nextIs (fun t => !t.tFlag && !t.iFlag && t.ctx == .isr && t.hpc == 1)
    (exec .flipt { inHandler with tFlag := true }) = true := by decide
theorem test_tgls : nextIs (fun t => t.sLine) (exec .tgls State.reset) = true := by decide
theorem test_tgls_twice : nextIs (fun t => !t.sLine) (stepsFrom 2 (harness [0x4400#16, 0x4400#16])) = true := by decide
/-- C13. -/
theorem test_cliSave : nextIs (fun t => t.savedI && !t.iFlag) (exec .cliSave { State.reset with iFlag := true }) = true := by
  decide
theorem test_iRestore : nextIs (fun t => t.iFlag) (exec .iRestore { State.reset with savedI := true }) = true := by decide
/-- C12. -/
theorem test_iRestore_nest : nextIs (fun t => !t.iFlag && t.fault.isSome)
    (exec .iRestore { inHandler with savedI := true }) = true := by decide
/-- R207's example. -/
theorem test_reti : nextIs (fun t => t.ctx == .main && t.iFlag && t.hpc == 19 && t.mpc == 12)
    (exec .reti { inHandler with hpc := 19, mpc := 12 }) = true := by decide
/-- C8, C9, C10. -/
theorem test_flipt_main : faultsWith .context (exec .flipt State.reset) = true := by decide
theorem test_reti_main : faultsWith .context (exec .reti State.reset) = true := by decide
theorem test_idle_isr : faultsWith .context (exec .idle inHandler) = true := by decide
theorem test_idle_holds : nextIs (fun t => t == { State.reset with weArmed := true })
    (exec .idle { State.reset with weArmed := true }) = true := by decide

/-! ### Events: vectors C3 to C5, N7, N17, N20, R-1, R-2 -/

theorem test_edge_latched : nextIs (fun t => t.inLine && t.pend)
    (exec .evEdge { State.reset with grpEn := true, pinEn := true }) = true := by decide
theorem test_edge_not_latched : nextIs (fun t => t.inLine && !t.pend)
    (exec .evEdge { State.reset with grpEn := true }) = true := by decide
theorem test_commit : nextIs (fun t => t.nvm == [(0x1F0, 0x08#8)] && !t.busy)
    (exec .evCommit { State.reset with busy := true, ladr := 0x1F0#16, ldat := 0x08#8 }) = true := by decide
theorem test_commit_not_enabled : nextIs (fun t => t == State.reset) (exec .evCommit State.reset) = true := by decide
theorem test_pgmset : nextIs (fun t => t.pgmBusy) (exec .evPgmset State.reset) = true := by decide
theorem test_pgmclr : nextIs (fun t => !t.pgmBusy) (exec .evPgmclr { State.reset with pgmBusy := true }) = true := by decide
/-- R-1. -/
theorem test_reset_event : nextIs (fun t => cleanLaunch t && memRead t.nvm 0 == 8)
    (exec .evReset { inHandler with nvm := [(0, 8)], tFlag := true, iFlag := true, mpc := 12, hpc := 3 }) = true := by decide
/-- R-2: RESET does not clear FAULT. -/
theorem test_reset_keeps_fault : faultsWith .nvmcBusy
    (exec .evReset { State.reset with fault := some { kind := .nvmcBusy, ctx := .main, upc := 5, word := none, reg := none } }) = true := by decide

/-- R131, R236: a COMMIT turn after RESET has cut the write off is no COMMIT. -/
theorem test_commitEventually_needs_busy :
    ¬ commitEventually (fun n => { State.reset with busy := n == 0 })
      (fun n => if n = 0 then .env .reset else .env .commit) := by
  intro h
  obtain ⟨m, -, hb, ht⟩ := h 0 rfl
  cases m <;> simp_all

/-! ### The step: vectors C6, C18, C19, N16, N18 -/

/-- C6: the step after the ICR write is interrupt entry. -/
theorem test_step_entry : nextIs (fun t => t.ctx == .isr && t.hpc == 0 && !t.pend && !t.iFlag && t.mpc == 1)
    (stepsFrom 2 { harness [0x1507#16] with pend := true, grpEn := true, pinEn := true }) = true := by decide
/-- C18. -/
theorem test_step_run_off_end : nextIs (fun t => t.fault ==
      some { kind := .runOffEnd, ctx := .main, upc := 1, word := none, reg := none })
    (stepsFrom 2 (harness [0x0000#16])) = true := by decide
/-- C19; X18: an event word is refused if fetched. -/
theorem test_step_reserved : nextIs (fun t => t.refused && t.mpc == 0) (step (harness [0x1006#16])) = true := by decide
theorem test_step_event_word : nextIs (fun t => t.refused && !t.inLine) (step (harness [0x8000#16])) = true := by decide
/-- N16, in turns: hold, COMMIT, advance. -/
theorem test_step_waitrdy_commit : nextIs (fun t => t.mpc == 1 && !t.busy && t.turns == [])
    (stepsFrom 3 { harness [0x4000#16] with busy := true, turns := [.seq, .env .commit, .seq] }) = true := by decide
/-- N18: PGMSET between WAITRDY and the write. -/
theorem test_step_pgmset_fault : faultsWith .nvmcBusy
    (stepsFrom 3 { harness [0x4000#16, 0x1200#16] with turns := [.seq, .env .pgmset, .seq] }) = true := by decide
/-- P1: boot with a stored 3, 11 steps to MPC 11. -/
theorem test_boot_display : nextIs (fun t => t.disp == 0xB0#8 && t.cur == some 3#8 && t.mpc == 9 && !t.iFlag)
    (stepsFrom 9 { State.reset with nvm := [(0, 3#8)] }) = true := by decide
theorem test_withFetchWord_mop : nextIs (fun t => t.sLine && t.mpc == 1) (step (State.reset.withFetchWord 16 0x4400)) = true := by
  decide
theorem test_withFetchWord_event : nextIs (fun t => t.inLine) (step (State.reset.withFetchWord 16 0x8000)) = true := by decide
theorem test_withFetchWord_isr : nextIs (fun t => t.ctx == .main) (step (inHandler.withFetchWord 16 0x4700)) = true := by decide

/-! ### Witnesses: every statement's hypotheses are met together, clause by clause -/

/-- An armed machine with a request: IRQ is true (R161). -/
def requesting : State := { State.reset with iFlag := true, grpEn := true, pinEn := true, pend := true }

/-- A machine with a commit in flight. -/
def busyState : State := { State.reset with busy := true }

/-- A machine that has stopped on a fault, with an event to come. -/
def faultedState : State :=
  { State.reset with
    fault := some { kind := .nvmcBusy, ctx := .main, upc := 5, word := none, reg := none }, turns := [.env .edge] }

theorem witness_EncodedInstructionDecodesBack :
    wellFormed (.wrIcr 0x07#8) = true ∧ encode (.wrIcr 0x07#8) = some 0x1507#16 := by decide
theorem witness_DecodedWordEncodesBack : decodedInstr (decode 0x1507#16) = some (.wrIcr 0x07#8) := by decide

/-- A reserved word and an event word, with the turn listed and not. -/
theorem witness_ReservedWordsAreRefused_fetch :
    seqTurn (harness [0x1006#16]) (harness [0x1006#16]) ∧
      seqTurn { harness [0x8000#16] with turns := [.seq] } (harness [0x8000#16]) ∧
      State.reset.fault = none ∧ State.reset.refused = false ∧ ¬ request State.reset ∧
      fetched (harness [0x1006#16]) = some 0x1006#16 ∧ reservedByRule 0x1006#16 ∧
      fetched (harness [0x8000#16]) = some 0x8000#16 ∧ cls 0x8000#16 = 8 :=
  ⟨.inl ⟨rfl, rfl⟩, .inr ⟨rfl, rfl⟩, rfl, rfl, by unfold request; decide, rfl, by unfold reservedByRule; decide, rfl, rfl⟩
theorem witness_ReservedWordsAreRefused_stopped :
    { State.reset with refused := true }.refused = true ∧
      seqTurn { State.reset with refused := true } { State.reset with refused := true } := ⟨rfl, .inl ⟨rfl, rfl⟩⟩

/-- The busy check's two sides, either signal: the premises of every controller-write and WAITRDY statement. -/
theorem witness_ready_and_inFlight :
    ready State.reset ∧ inFlight busyState ∧ inFlight { State.reset with pgmBusy := true } := by decide
theorem witness_WriteStrobeLatchesOrIsIgnored :
    (ready { State.reset with weArmed := true } ∧ { State.reset with weArmed := true }.weArmed = true) ∧
      ready State.reset ∧ State.reset.weArmed = false := by decide
/-- The bytes 7 in MAIN context, 3 and 4 in ISR context. -/
theorem witness_WrIcrSetsTheEnables :
    ((0x07#8).toNat < 8 ∧ State.reset.ctx = .main) ∧ ((0x03#8).toNat < 4 ∧ inHandler.ctx = .isr) ∧
      (0x04#8).toNat < 8 ∧ 4 ≤ (0x04#8).toNat := by decide
theorem witness_WrrToTheControllerWritesTheRegister :
    (working .nxt (withRegs 1 8) = some 8#8 ∧ ready (withRegs 1 8)) ∧
      (Instr.wrrNvadrh .cur ∈ [Instr.wrrNvdat .cur, .wrrNvadrl .cur, .wrrNvadrh .cur] ∧
        working .cur State.reset = none) ∧
      working .cur { withRegs 1 8 with busy := true } ≠ none ∧ inFlight { withRegs 1 8 with busy := true } := by decide
/-- The premises about a working register, written and not: WRR to the CSM, ENCOUT and INC. -/
theorem witness_working_registers :
    working .cur (withRegs 7 0) = some 7#8 ∧ (withRegs 7 0).cur = some 7#8 ∧ working .nxt State.reset = none ∧
      State.reset.cur = none := by decide
theorem witness_WaitrdyHoldsWhileBusy : inFlight busyState ∧
    exec (eventInstr .commit) busyState = .next { State.reset with nvm := [(0, 0#8)] } ∧
      ready { State.reset with nvm := [(0, 0#8)] } :=
  ⟨by decide, rfl, by decide⟩
/-- The premises about the context and T: FLIPT, RETI, IDLE. -/
theorem witness_contexts :
    (inHandler.ctx = .isr ∧ inHandler.tFlag = false) ∧
      ({ inHandler with tFlag := true }.ctx = .isr ∧ { inHandler with tFlag := true }.tFlag = true) ∧
      State.reset.ctx = .main := by decide
theorem witness_CriticalSectionSavesAndRestores :
    State.reset.ctx = .main ∧ inHandler.savedI = false ∧
      { inHandler with savedI := true }.ctx = .isr ∧ { inHandler with savedI := true }.savedI = true := by decide
theorem witness_EdgeIsLatchedWhileEnabled :
    (requesting.grpEn = true ∧ requesting.pinEn = true) ∧ { State.reset with grpEn := true }.pinEn = false ∧
      { State.reset with pinEn := true }.grpEn = false := by decide
/-- Both COMMIT statements and RESET's clauses. -/
theorem witness_commit : busyState.busy = true ∧ State.reset.busy = false ∧ 1 ≠ latchAddr busyState := by decide
theorem witness_EncodeClampsToDigitZero : 9 < (0x0A#8).toNat := by decide
theorem witness_DefaultDisplayPatterns : defaultParams.segLut = defaultSegLut defaultParams.cmplDot := by decide
theorem witness_SegencLawsForEveryTable :
    glyphsDistinct defaultParams = true ∧ 10 ≤ (0x0A#8).toNat ∧ outPattern 0x3F#8 = outPattern 0x3F#8 ∧
      (9#8).toNat ≤ 9 ∧ displayPattern defaultParams 9#8 = displayPattern defaultParams 9#8 := by decide

theorem witness_StepRunsTheDecodedMop :
    seqTurn { harness [0x4400#16] with turns := [.seq, .env .edge] } { harness [0x4400#16] with turns := [.env .edge] } ∧
      (harness [0x4400#16]).fault = none ∧ (harness [0x4400#16]).refused = false ∧
      ¬ request { harness [0x4400#16] with turns := [.env .edge] } ∧
      fetched { harness [0x4400#16] with turns := [.env .edge] } = some 0x4400#16 ∧ decode 0x4400#16 = .mop .tgls :=
  ⟨.inr ⟨rfl, rfl⟩, rfl, rfl, by unfold request; decide, rfl, by decide⟩
theorem witness_StepDeliversTheEvent : faultedState.turns = .env .edge :: { faultedState with turns := [] }.turns ∧
    { faultedState with turns := [] } = { faultedState with turns := { faultedState with turns := [] }.turns } := by decide
theorem witness_InterruptEntryExactlyOnRequest :
    (seqTurn requesting requesting ∧ requesting.fault = none ∧ requesting.refused = false ∧ request requesting) ∧
      step requesting = .next { requesting with pend := false, iFlag := false, ctx := .isr } ∧
      requesting.ctx = .main ∧ { requesting with pend := false, iFlag := false, ctx := .isr }.ctx = .isr :=
  ⟨⟨.inl ⟨rfl, rfl⟩, rfl, rfl, by unfold request; decide⟩, rfl, rfl, rfl⟩
/-- The index just past the end, in both contexts. -/
theorem witness_FetchPastTheEndFaults :
    (seqTurn (harness []) (harness []) ∧ (harness []).fault = none ∧ (harness []).refused = false ∧
        ¬ request (harness []) ∧ (harness []).mainProgram.length ≤ (harness []).mpc) ∧
      seqTurn { inHandler with hpc := 20 } { inHandler with hpc := 20 } ∧ ¬ request { inHandler with hpc := 20 } ∧
      { inHandler with hpc := 20 }.handlerProgram.length ≤ { inHandler with hpc := 20 }.hpc :=
  ⟨⟨.inl ⟨rfl, rfl⟩, rfl, rfl, by unfold request; decide, by decide⟩, .inl ⟨rfl, rfl⟩, by unfold request; decide, by decide⟩

theorem witness_StoppedForGood :
    (faultedState.fault ≠ none ∧ step faultedState = .next { faultedState with turns := [], inLine := true }) ∧
      step { State.reset with refused := true, turns := [.env .edge] } =
        .next { State.reset with refused := true, inLine := true } ∧
      seqTurn { faultedState with turns := [] } { faultedState with turns := [] } ∧
      seqTurn { State.reset with refused := true } { State.reset with refused := true } :=
  ⟨⟨by decide, rfl⟩, rfl, .inl ⟨rfl, rfl⟩, .inl ⟨rfl, rfl⟩⟩
theorem witness_OnlyCommitAndResetWriteNvm :
    exec .tgls State.reset = .next { State.reset with sLine := true, mpc := 1 } ∧ Instr.tgls ≠ .evCommit ∧
      Instr.tgls ≠ .evReset ∧ State.reset.busy = false ∧ 1 ≠ latchAddr State.reset := ⟨rfl, by decide⟩
/-- NOP meets every clause of the three statements on writers, in MAIN and in ISR context. -/
theorem witness_writers :
    exec .nop requesting = .next { requesting with mpc := 1 } ∧ requesting.pend = true ∧ requesting.ctx = .main ∧
      exec .nop inHandler = .next { inHandler with hpc := 1 } ∧ { inHandler with hpc := 1 }.ctx = .isr ∧
      (∀ v r, Instr.nop ≠ .wrNvadrl v ∧ Instr.nop ≠ .wrNvadrh v ∧ Instr.nop ≠ .wrrNvadrl r ∧ Instr.nop ≠ .wrrNvadrh r ∧
        Instr.nop ≠ .wrNvdat v ∧ Instr.nop ≠ .wrrNvdat r ∧ Instr.nop ≠ .wrDisp v ∧ Instr.nop ≠ .wrrDisp r ∧
        Instr.nop ≠ .encout r ∧ Instr.nop ≠ .wrDir v ∧ Instr.nop ≠ .wrrDir r ∧ Instr.nop ≠ .wrIcr v) ∧
      (∀ r, Instr.nop ≠ .rdNvcr r ∧ Instr.nop ≠ .rdNvdat r ∧ Instr.nop ≠ .rdNvadrl r ∧ Instr.nop ≠ .rdNvadrh r ∧
        Instr.nop ≠ .rdDisp r ∧ Instr.nop ≠ .rdIcr r ∧ Instr.nop ≠ .rdStat r ∧ Instr.nop ≠ .rdDir r) ∧
      Instr.nop ≠ .wrNvcrRe ∧ Instr.nop ≠ .wrNvcrWs ∧ Instr.nop ≠ .evCommit ∧ Instr.nop ≠ .evPgmset ∧
      Instr.nop ≠ .evPgmclr ∧ Instr.nop ≠ .evReset ∧ Instr.nop ≠ .evEdge ∧ Instr.nop ≠ .flipt ∧ Instr.nop ≠ .reti ∧
      Instr.nop ≠ .tgls ∧ Instr.nop ≠ .cliSave ∧ Instr.nop ≠ .iRestore ∧ Instr.nop ≠ .inc :=
  ⟨rfl, rfl, rfl, rfl, rfl, by simp, by simp, by decide⟩
theorem witness_DirHasNoEffect : (∀ r, Instr.tgls ≠ .rdDir r) ∧
    exec .tgls State.reset = .next { State.reset with sLine := true, mpc := 1 } := ⟨by simp, rfl⟩
theorem witness_ProgramsAndParametersAreFixed :
    step (harness [0x4400#16]) = .next { harness [0x4400#16] with sLine := true, mpc := 1 } := rfl
theorem witness_WriteEnableLastsOneStep :
    (decode 0x1004#16 = .mop .wrNvcrWe ∧ exec .wrNvcrWe State.reset = .next { State.reset with weArmed := true, mpc := 1 } ∧
        State.reset.fault = none ∧ { State.reset with weArmed := true, mpc := 1 } ≠ State.reset) ∧
      (exec (eventInstr .edge) State.reset = .next { State.reset with inLine := true } ∧
        exec (eventInstr .reset) State.reset = .next (resetEffect State.reset)) ∧
      seqTurn requesting requesting ∧ request requesting ∧
      step requesting = .next { requesting with pend := false, iFlag := false, ctx := .isr } :=
  ⟨⟨by decide, rfl, rfl, by decide⟩, ⟨rfl, rfl⟩, .inl ⟨rfl, rfl⟩, by unfold request; decide, rfl⟩
/-- The clauses of log entry 12: a faulting MOP, a fetch past the end and a refused fetch, each with WE armed. -/
theorem witness_WriteEnableLastsOneStep_stopping :
    exec .reti { State.reset with weArmed := true } =
        .next (withFault .context (some 0x4700#16) none { State.reset with weArmed := true }) ∧
      (seqTurn { harness [] with weArmed := true } { harness [] with weArmed := true } ∧
        ¬ request { harness [] with weArmed := true } ∧ fetched { harness [] with weArmed := true } = none) ∧
      fetched { harness [0x1006#16] with weArmed := true } = some 0x1006#16 ∧ (∀ i, decode 0x1006#16 ≠ .mop i) :=
  ⟨rfl, ⟨.inl ⟨rfl, rfl⟩, by unfold request; decide, rfl⟩, rfl,
    fun i => by rw [show decode 0x1006#16 = .reserved .strobeValue by decide]; simp⟩
/-- SEL 3 of both write classes, and a bus read. -/
theorem witness_BusyControllerTakesNoWrite :
    (decode 0x13FF#16 = .mop (.wrNvadrh 0xFF#8) ∧ cls 0x13FF#16 = 1 ∧ sel 0x13FF#16 < 4 ∧ inFlight busyState) ∧
      (decode 0x2301#16 = .mop (.wrrNvadrh .nxt) ∧ cls 0x2301#16 = 2 ∧ sel 0x2301#16 < 4 ∧ data 0x2301#16 = 1 ∧
        inFlight { withRegs 0 1 with busy := true } ∧ working .nxt { withRegs 0 1 with busy := true } ≠ none) ∧
      decode 0x3000#16 = .mop (.rdNvcr .cur) ∧ cls 0x3000#16 = 3 := by decide
theorem witness_FaultingMopWritesOnlyFault :
    exec .reti State.reset = .next (withFault .context (some 0x4700#16) none State.reset) ∧ State.reset.fault = none ∧
      (withFault .context (some 0x4700#16) none State.reset).fault ≠ none := ⟨rfl, rfl, by decide⟩
theorem witness_ResetStartsMaskedInMain : exec .evReset inHandler = .next (resetEffect inHandler) := rfl

theorem witness_EveryStepKeepsTheStateInvariant : StateOk inHandler ∧
    step { inHandler with tFlag := true } = .next { inHandler with hpc := 1 } := by
  exact ⟨by unfold StateOk; decide, rfl⟩
theorem witness_fixed_programs_invariant : FixedOk State.reset ∧ State.reset.pgmBusy = false ∧ State.reset.fault = none ∧
    step State.reset = .next { State.reset with dir := 0xFF#8, mpc := 1 } := by
  refine ⟨⟨rfl, rfl, rfl, ?_⟩, rfl, rfl, rfl⟩
  simp [State.reset, resetWith]
theorem witness_clean_launch : cleanLaunch State.reset = true ∧ fixedPrograms State.reset = true ∧
    State.reset.turns = [] ∧ State.reset.pgmBusy = false := by decide

/-- CommittedByteReadsBack, NvReadReturnsTheSlot and NvWriteLatchesTheSlot, the last two also in ISR context. -/
theorem witness_accessors : ready State.reset ∧ (ready inHandler ∧ inHandler.iFlag = false) ∧
    working .nxt (withRegs 7 8) = some 8#8 ∧ ready (withRegs 7 8) := by decide
theorem witness_FirstEdgeOnlyFlipsT : requesting.turns = [] ∧ requesting.fault = none ∧ requesting.refused = false ∧
    request requesting ∧ requesting.tFlag = false ∧ requesting.handlerProgram = handlerRom requesting.params := by
  unfold request; decide
theorem witness_SecondEdgeCountsOnePress : request { requesting with tFlag := true } ∧
    { requesting with tFlag := true }.tFlag = true ∧ ready { requesting with tFlag := true } := by
  unfold request; decide
theorem witness_TwoEdgesMakeOnePress : { requesting with pend := false }.pend = false ∧ requesting.ctx = .main ∧
    requesting.iFlag = true ∧ requesting.grpEn = true ∧ requesting.pinEn = true ∧ requesting.tFlag = false ∧
    requesting.fault = none ∧ requesting.refused = false ∧ ready requesting ∧
    requesting.handlerProgram = handlerRom requesting.params := by decide

end Sys2Proof.Tests
end

section
/-! A machine with FAULT or REFUSED set has no SEQ step, so the only steps it still takes are ENV's, and no event writes
either flag. -/

namespace Sys2Proof.Machine

open Sys2Proof.Claims

theorem stopped_iff (s : State) : stopped s = true ↔ s.fault ≠ none ∨ s.refused = true := by
  simp [stopped, Option.isSome_iff_ne_none]

/-- Taking a turn off the list does not touch what stops the machine. -/
@[simp] theorem stopped_turns (s : State) (ts : List Turn) : stopped { s with turns := ts } = stopped s := rfl

/-- R38, R162: a stopped machine has no SEQ step. -/
theorem seqStep_ne_next_of_stopped {s : State} (h : stopped s = true) (t : State) : seqStep s ≠ .next t := by
  intro hstep
  obtain ⟨hfault, hrefused, -⟩ := seqStep_cases hstep
  simp [stopped, hfault, hrefused] at h

/-- At SEQ's turn the step is the sequencer's, on the state without that turn (R17). -/
theorem step_of_seqTurn {s u : State} (h : seqTurn s u) : step s = seqStep u := by
  obtain ⟨hturns, rfl⟩ | ⟨hturns, hu⟩ := h
  · exact step_no_turn hturns
  · rw [step_seq_turn hturns, ← hu]

theorem stopped_of_seqTurn {s u : State} (h : seqTurn s u) : stopped u = stopped s := by
  obtain ⟨-, rfl⟩ | ⟨-, hu⟩ := h
  · rfl
  · rw [hu, stopped_turns]

/-- No event writes FAULT or REFUSED, RESET included (R38, R231). -/
theorem exec_event_keeps_fault_refused {e : Event} {s t : State} (h : exec (eventInstr e) s = .next t) :
    t.fault = s.fault ∧ t.refused = s.refused := by
  cases e with
  | commit =>
    simp only [eventInstr, exec, execEvCommit] at h
    split at h <;> cases h <;> exact ⟨rfl, rfl⟩
  | edge | pgmset | pgmclr | reset => cases h; exact ⟨rfl, rfl⟩

/-- A step of a stopped machine is ENV's, and so keeps both flags (R38). -/
theorem step_keeps_fault_refused_of_stopped {s t : State} (hs : stopped s = true) (h : step s = .next t) :
    t.fault = s.fault ∧ t.refused = s.refused := by
  obtain ⟨u, -, hu, hseq⟩ | ⟨e, u, -, hu, henv⟩ := step_cases s
  · have hstop : stopped u = true := by rw [hu, stopped_turns, hs]
    exact absurd (hseq ▸ h) (seqStep_ne_next_of_stopped hstop t)
  · have hkeep := exec_event_keeps_fault_refused (henv ▸ h)
    rw [hu] at hkeep
    exact hkeep

/-- Settles O37: in a stopped machine only events are still delivered, and these write neither FAULT nor REFUSED. -/
theorem stoppedForGood : Obligations.StoppedForGood := by
  unfold Obligations.StoppedForGood
  refine ⟨⟨rfl, rfl⟩, fun s t h => ⟨fun r hr => ?_, fun hr => ?_⟩, fun s u hturn hs t => ?_⟩
  · have hs : stopped s = true := (stopped_iff s).2 (.inl (by simp [hr]))
    rw [(step_keeps_fault_refused_of_stopped hs h).1, hr]
  · have hs : stopped s = true := (stopped_iff s).2 (.inr hr)
    rw [(step_keeps_fault_refused_of_stopped hs h).2, hr]
  · rw [step_of_seqTurn hturn]
    exact seqStep_ne_next_of_stopped (by rw [stopped_of_seqTurn hturn]; exact (stopped_iff s).2 hs) t

end Sys2Proof.Machine
end

section
/-! SEGENC for an arbitrary glyph table and for the default one. ENCODE is one lookup in the table, at the index of the
byte's digit, and OUTPAT a bijection; so DISPLAY tells two digits apart exactly when the table does (R101, R105, R108). -/

namespace Sys2Proof.Machine

open Sys2Proof.Claims

/-- The table entry a byte selects (R101): its digit, and digit 0 for every byte above 9. -/
def digitIndex (d : Byte) : Fin 10 := if h : d.toNat ≤ 9 then ⟨d.toNat, by omega⟩ else 0

/-- R101: a byte up to 9 is its own index. -/
theorem digitIndex_of_le {d : Byte} (h : d.toNat ≤ 9) : digitIndex d = ⟨d.toNat, by omega⟩ := dif_pos h

/-- R101: every byte above 9 is clamped to digit 0. -/
theorem digitIndex_of_gt {d : Byte} (h : 9 < d.toNat) : digitIndex d = 0 := dif_neg (by omega)

theorem digitIndex_val (d : Byte) : (digitIndex d).val = if d.toNat ≤ 9 then d.toNat else 0 := by
  split
  next h => rw [digitIndex_of_le h]
  next h => rw [digitIndex_of_gt (by omega)]; rfl

/-- ENCODE is one table lookup (R101). -/
theorem encodeDigit_eq (p : Params) (d : Byte) : encodeDigit p d = p.segLut[(digitIndex d).val] := by
  unfold encodeDigit digitIndex
  split <;> rfl

/-- R108: the clamp, for every table. -/
theorem encodeDigit_of_gt (p : Params) {d : Byte} (h : 9 < d.toNat) : encodeDigit p d = encodeDigit p 0#8 := by
  simp only [encodeDigit_eq, digitIndex_of_gt h]
  rfl

/-- R108, R6: with distinct glyphs, ENCODE tells two digits apart. -/
theorem encodeDigit_injOn_digits {p : Params} (hp : glyphsDistinct p = true) {d e : Byte} (hd : d.toNat ≤ 9)
    (he : e.toNat ≤ 9) (h : encodeDigit p d = encodeDigit p e) : d = e := by
  have hnodup : p.segLut.toList.Nodup := of_decide_eq_true hp
  simp only [encodeDigit_eq, digitIndex_of_le hd, digitIndex_of_le he] at h
  exact BitVec.eq_of_toNat_eq (hnodup.getElem_inj_iff.1 h)

/-- R105: OUTPAT is its own inverse, and so injective. -/
theorem outPattern_involutive : Function.Involutive outPattern := fun _ => BitVec.not_not

/-- Settles O32: the clamp is ENCODE's; distinctness passes from the table through ENCODE and the injective OUTPAT. -/
theorem segencLawsForEveryTable : Obligations.SegencLawsForEveryTable := by
  unfold Obligations.SegencLawsForEveryTable
  refine fun p hp => ⟨fun d hd => encodeDigit_of_gt p hd, fun g h => ⟨outPattern_involutive g, ?_⟩, fun d e hd he h => ?_⟩
  · exact fun hout => outPattern_involutive.injective hout
  · exact encodeDigit_injOn_digits hp hd he (outPattern_involutive.injective h)

/-- The column of R107 for a value of `CMPL_DOT`. -/
def defaultDisplayColumn (cmplDot : Bool) : List Byte :=
  if cmplDot then [0x40#8, 0xF9#8, 0x24#8, 0x30#8, 0x19#8, 0x12#8, 0x02#8, 0xF8#8, 0x00#8, 0x10#8]
  else [0xC0#8, 0xF9#8, 0xA4#8, 0xB0#8, 0x99#8, 0x92#8, 0x82#8, 0xF8#8, 0x80#8, 0x90#8]

/-- The twenty entries of R107 are the complements of the default glyphs of R103. -/
theorem outPattern_defaultSegLut : ∀ (cmplDot : Bool) (i : Fin 10),
    outPattern (defaultSegLut cmplDot)[i.val] = (defaultDisplayColumn cmplDot).getD i.val 0#8 := by decide

/-- Settles O31: DISPLAY is OUTPAT of the entry at the byte's digit index, and R107 lists these for the default table. -/
theorem defaultDisplayPatterns : Obligations.DefaultDisplayPatterns := by
  unfold Obligations.DefaultDisplayPatterns
  intro p d hlut
  have hdisplay : displayPattern p d = (defaultDisplayColumn p.cmplDot).getD (digitIndex d).val 0#8 := by
    rw [displayPattern, encodeDigit_eq, hlut, outPattern_defaultSegLut]
  rw [hdisplay, digitIndex_val, defaultDisplayColumn]

end Sys2Proof.Machine
end

section
/-! The words of the claims are the model's: the end of a MOP, a fault, the working registers, NVADR as a number, and the
word of an instruction as a number. With them, the two shared checks of the bus (R121, R201) in the claims' own words. -/

namespace Sys2Proof.Machine

open Sys2Proof.Claims

/-! ### The state -/

theorem retire_eq_ends (s : State) : retire s = ends s := rfl

theorem faulted_eq_withFault (k : FaultKind) (w : Option Word) (r : Option WReg) (s : State) :
    faulted k w r s = withFault k w r s := by
  have hupc : upc s = counter s := by cases h : s.ctx <;> simp [upc, counter, h]
  rw [faulted, withFault, hupc]

theorem working_eq_readWorking (r : WReg) (s : State) : working r s = readWorking r s := by cases r <;> rfl

theorem writeWorking_eq_setWorking (r : WReg) (v : Byte) (s : State) : writeWorking r v s = setWorking r v s := by
  cases r <;> rfl

/-! ### NVADR as a number (R22, R80) -/

theorem toNat_nvAddr (s : State) : (nvAddr s).toNat = addr s := toNat_narrowAddr _ _

theorem nvAddr_eq_ofNat (s : State) : nvAddr s = BitVec.ofNat 16 (addr s) := rfl

theorem loByte_nvAddr (s : State) : loByte (nvAddr s) = byte (addr s % 256) := by
  apply BitVec.eq_of_toNat_eq
  rw [toNat_loByte, toNat_nvAddr, byte, BitVec.toNat_ofNat]
  omega

theorem hiByte_nvAddr (s : State) : hiByte (nvAddr s) = byte (addr s / 256 % 256) := by
  have hlt : addr s < 65536 := toNat_nvAddr s ▸ (nvAddr s).isLt
  apply BitVec.eq_of_toNat_eq
  rw [toNat_hiByte, toNat_nvAddr, byte, BitVec.toNat_ofNat]
  omega

/-- R80, R122: NVADR[7:0] is replaced. -/
theorem setAddrLow_eq (v : Byte) (s : State) :
    setAddrLow v s = { s with nvadr := BitVec.ofNat 16 ((addr s / 256 * 256 + v.toNat) % cells s) } := by
  rw [setAddrLow, narrowAddr, toNat_append_bytes, toNat_hiByte, toNat_nvAddr, cells]

/-- R80, R123: NVADR[15:8] is replaced. -/
theorem setAddrHigh_eq (v : Byte) (s : State) :
    setAddrHigh v s = { s with nvadr := BitVec.ofNat 16 ((v.toNat * 256 + addr s % 256) % cells s) } := by
  rw [setAddrHigh, narrowAddr, toNat_append_bytes, toNat_loByte, toNat_nvAddr, cells]

/-! ### Words as numbers (R72) -/

theorem toNat_mopWord (c s : BitVec 4) (d : Byte) :
    (mopWord c s d).toNat = c.toNat * 4096 + s.toNat * 256 + d.toNat := by
  have hupper : (c ++ s : Byte).toNat = c.toNat * 16 + s.toNat := by
    have e : (c ++ s : Byte).toNat = (c ++ s).toNat := rfl
    rw [e, BitVec.toNat_append, ← Nat.shiftLeft_add_eq_or_of_lt s.isLt, Nat.shiftLeft_eq]
  have hword : (mopWord c s d).toNat = (c ++ s : Byte).toNat * 256 + d.toNat := toNat_append_bytes (c ++ s) d
  rw [hword, hupper]
  ring

theorem mopWord_eq_ofNat (c s : BitVec 4) (d : Byte) :
    mopWord c s d = BitVec.ofNat 16 (c.toNat * 4096 + s.toNat * 256 + d.toNat) := by
  rw [← toNat_mopWord, BitVec.ofNat_toNat, BitVec.setWidth_eq]

/-- CLASS, SEL and DATA as the numbers the claims take a word apart into. -/
theorem toNat_fields (w : Word) :
    (classField w).toNat = cls w ∧ (selField w).toNat = sel w ∧ (dataField w).toNat = data w := by
  have hword := congrArg BitVec.toNat (mopWord_fields w)
  rw [toNat_mopWord] at hword
  have hs := (selField w).isLt
  have hd := (dataField w).isLt
  unfold cls sel data
  omega

/-- R74: CUR is DATA 0 and NXT is DATA 1. -/
theorem toNat_registerData (r : WReg) : (registerData r).toNat = if r = .cur then 0 else 1 := by
  cases r <;> rfl

theorem mopWord_registerData (c s : BitVec 4) (r : WReg) :
    some (mopWord c s (registerData r)) = registerWord (c.toNat * 4096 + s.toNat * 256) r := by
  rw [mopWord_eq_ofNat, toNat_registerData, registerWord]

/-! ### The two checks of the bus -/

/-- R121: in a ready controller a checked write takes effect and the MOP ends. -/
theorem nvmcWrite_of_ready {s : State} (i : Instr) (f : State → State) (h : ready s) :
    nvmcWrite i f s = .next (ends (f s)) :=
  nvmcWrite_ready i f ((nvmcBusy_eq_false_iff s).2 h)

/-- R121: with a write or a programming operation in flight it faults and writes nothing. -/
theorem nvmcWrite_of_inFlight {s : State} (i : Instr) (f : State → State) (h : inFlight s) :
    nvmcWrite i f s = .next (withFault .nvmcBusy (encode i) none s) := by
  rw [nvmcWrite_busy i f ((nvmcBusy_eq_true_iff s).2 h), faulted_eq_withFault]

/-- R28: a written source register gives its byte. -/
theorem withWorking_of_working {s : State} {r : WReg} {v : Byte} (i : Instr) (f : Byte → Answer)
    (h : working r s = some v) : withWorking i r f s = f v :=
  withWorking_written i f (working_eq_readWorking r s ▸ h)

/-- R201: an unwritten source register faults, before any other check. -/
theorem withWorking_of_working_none {s : State} {r : WReg} (i : Instr) (f : Byte → Answer)
    (h : working r s = none) : withWorking i r f s = .next (withFault .unwritten (encode i) (some r) s) := by
  rw [withWorking_unwritten i f (working_eq_readWorking r s ▸ h), faulted_eq_withFault]

/-- A bus read in the claims' words: one working register, and the MOP's end (R120). -/
theorem busRead_eq (r : WReg) (v : Byte) (s : State) : busRead r v s = .next (ends (setWorking r v s)) := by
  rw [busRead, writeWorking_eq_setWorking, retire_eq_ends]

end Sys2Proof.Machine
end

section
/-! The bus writes of an immediate (R122 to R134): each is a checked write to the NVM controller, or an unchecked one to the
CSM. -/

namespace Sys2Proof.Machine

open Sys2Proof.Claims

theorem exec_wrNvcrClr (s : State) : exec .wrNvcrClr s = nvmcWrite .wrNvcrClr (fun t => t) s := rfl

theorem exec_wrNvcrRe (s : State) : exec .wrNvcrRe s = nvmcWrite .wrNvcrRe readStrobe s := rfl

theorem exec_wrNvcrWs (s : State) : exec .wrNvcrWs s = nvmcWrite .wrNvcrWs writeStrobe s := rfl

theorem exec_wrNvdat (v : Byte) (s : State) :
    exec (.wrNvdat v) s = nvmcWrite (.wrNvdat v) (fun t => { t with nvdat := v }) s := rfl

theorem exec_wrNvadrl (v : Byte) (s : State) :
    exec (.wrNvadrl v) s = nvmcWrite (.wrNvadrl v) (setAddrLow v) s := rfl

theorem exec_wrNvadrh (v : Byte) (s : State) :
    exec (.wrNvadrh v) s = nvmcWrite (.wrNvadrh v) (setAddrHigh v) s := rfl

/-- R121, R127: WE makes its own busy check, since it is the one MOP that does not end in `WE_ARMED <- 0`. -/
theorem exec_wrNvcrWe_of_inFlight {s : State} (h : inFlight s) :
    exec .wrNvcrWe s = .next (withFault .nvmcBusy (encode .wrNvcrWe) none s) := by
  change execWrNvcrWe s = _
  rw [execWrNvcrWe, if_pos ((nvmcBusy_eq_true_iff s).2 h), raise_eq, faulted_eq_withFault]

theorem exec_wrNvcrWe_of_ready {s : State} (h : ready s) : exec .wrNvcrWe s = .next { ends s with weArmed := true } := by
  have hbusy : ¬ nvmcBusy s = true := by rw [(nvmcBusy_eq_false_iff s).2 h]; decide
  change execWrNvcrWe s = _
  rw [execWrNvcrWe, if_neg hbusy]
  rfl

/-- R129: with WE armed the write strobe latches address and data and sets BUSY. -/
theorem writeStrobe_of_weArmed {s : State} (h : s.weArmed = true) :
    writeStrobe s = { s with ladr := BitVec.ofNat 16 (addr s), ldat := s.nvdat, busy := true } := by
  simp only [writeStrobe, h, if_true, nvAddr_eq_ofNat]

/-- R129: without WE the write strobe is ignored. -/
theorem writeStrobe_of_not_weArmed {s : State} (h : s.weArmed = false) : writeStrobe s = s := by
  cases s
  cases h
  rfl

/-- R126: the read strobe loads the cell at NVADR. -/
theorem readStrobe_eq (s : State) : readStrobe s = { s with nvdat := memRead s.nvm (addr s) } := by
  rw [readStrobe, toNat_nvAddr]

/-- Settles O6: a checked write of NVDAT. -/
theorem wrNvdatStoresTheByte : Obligations.WrNvdatStoresTheByte := by
  unfold Obligations.WrNvdatStoresTheByte
  intro v s
  rw [exec_wrNvdat]
  exact ⟨congrArg some (mopWord_eq_ofNat _ _ v), nvmcWrite_of_ready _ _, nvmcWrite_of_inFlight _ _⟩

/-- Settles O7: a checked write, of NVADR by its low byte. -/
theorem wrNvadrlSetsTheLowByte : Obligations.WrNvadrlSetsTheLowByte := by
  unfold Obligations.WrNvadrlSetsTheLowByte
  intro v s
  rw [exec_wrNvadrl, ← setAddrLow_eq]
  exact ⟨congrArg some (mopWord_eq_ofNat _ _ v), nvmcWrite_of_ready _ _, nvmcWrite_of_inFlight _ _⟩

/-- Settles O8: a checked write, of NVADR by its high byte. -/
theorem wrNvadrhSetsTheHighByte : Obligations.WrNvadrhSetsTheHighByte := by
  unfold Obligations.WrNvadrhSetsTheHighByte
  intro v s
  rw [exec_wrNvadrh, ← setAddrHigh_eq]
  exact ⟨congrArg some (mopWord_eq_ofNat _ _ v), nvmcWrite_of_ready _ _, nvmcWrite_of_inFlight _ _⟩

/-- Settles O9: CLR is a checked write of nothing, so only its end shows; WE makes the same check. -/
theorem clrDisarmsAndWeArms : Obligations.ClrDisarmsAndWeArms := by
  unfold Obligations.ClrDisarmsAndWeArms
  refine ⟨rfl, rfl, fun s => ?_⟩
  rw [exec_wrNvcrClr]
  exact ⟨fun h => ⟨nvmcWrite_of_ready _ _ h, exec_wrNvcrWe_of_ready h⟩,
    fun h => ⟨nvmcWrite_of_inFlight _ _ h, exec_wrNvcrWe_of_inFlight h⟩⟩

/-- Settles O10: a checked write of NVDAT with the cell at NVADR. -/
theorem readStrobeLoadsTheCell : Obligations.ReadStrobeLoadsTheCell := by
  unfold Obligations.ReadStrobeLoadsTheCell
  refine ⟨rfl, fun s => ?_⟩
  rw [exec_wrNvcrRe, ← readStrobe_eq]
  exact ⟨nvmcWrite_of_ready _ _, nvmcWrite_of_inFlight _ _⟩

/-- Settles O11: a checked write strobe, armed or not. -/
theorem writeStrobeLatchesOrIsIgnored : Obligations.WriteStrobeLatchesOrIsIgnored := by
  unfold Obligations.WriteStrobeLatchesOrIsIgnored
  refine ⟨rfl, by decide, fun s => ?_⟩
  rw [exec_wrNvcrWs]
  refine ⟨fun hready harmed => ?_, fun hready harmed => ?_, nvmcWrite_of_inFlight _ _⟩
  · rw [nvmcWrite_of_ready _ _ hready, writeStrobe_of_weArmed harmed]
  · rw [nvmcWrite_of_ready _ _ hready, writeStrobe_of_not_weArmed harmed]

/-- Settles O12: the writes of DISP and DIR are not checked. -/
theorem wrDispAndDirStoreTheByte : Obligations.WrDispAndDirStoreTheByte := by
  unfold Obligations.WrDispAndDirStoreTheByte
  exact fun v s => ⟨congrArg some (mopWord_eq_ofNat _ _ v), congrArg some (mopWord_eq_ofNat _ _ v),
    congrArg Host.Outcome.next (retire_eq_ends _), congrArg Host.Outcome.next (retire_eq_ends _)⟩

/-! ### ICR (R81, R134) -/

/-- R134: the operands with bits 7:3 zero are those below 8. -/
theorem icrHighBits_eq_zero_iff (v : Byte) : v.extractLsb' 3 5 = 0#5 ↔ v.toNat < 8 := by
  have hv := v.isLt
  rw [← BitVec.toNat_inj, BitVec.extractLsb'_toNat, Nat.shiftRight_eq_div_pow, BitVec.toNat_ofNat]
  omega

theorem getLsbD_eq_decide (v : Byte) (i : Nat) : v.getLsbD i = decide (v.toNat / 2 ^ i % 2 = 1) :=
  Nat.testBit_eq_decide_div_mod_eq

/-- R134: bit 2 of an operand below 8 is set exactly from 4 on. -/
theorem getLsbD_two_of_lt {v : Byte} (h : v.toNat < 8) : v.getLsbD 2 = decide (4 ≤ v.toNat) := by
  rw [getLsbD_eq_decide, decide_eq_decide]
  omega

/-- R134, R208: I = 1 in the handler faults. -/
theorem exec_wrIcr_nest {v : Byte} {s : State} (hc : s.ctx = .isr) (hI : v.getLsbD 2 = true) :
    exec (.wrIcr v) s = .next (withFault .nest (encode (.wrIcr v)) none s) := by
  change execWrIcr v s = _
  rw [execWrIcr, if_pos ⟨hc, hI⟩, raise_eq, faulted_eq_withFault]

/-- R134: anywhere else, or with I = 0, the three enables are written. -/
theorem exec_wrIcr_writes {v : Byte} {s : State} (h : ¬ (s.ctx = .isr ∧ v.getLsbD 2 = true)) :
    exec (.wrIcr v) s =
      .next (ends { s with grpEn := v.getLsbD 0, pinEn := v.getLsbD 1, iFlag := v.getLsbD 2 }) := by
  change execWrIcr v s = _
  rw [execWrIcr, if_neg h, retire_eq_ends]

/-- R86, R134: an ICR word with DATA below 8 decodes. -/
theorem decode_wrIcr {v : Byte} (h : v.toNat < 8) : decode (BitVec.ofNat 16 (0x1500 + v.toNat)) = .mop (.wrIcr v) := by
  have hword : BitVec.ofNat 16 (0x1500 + v.toNat) = mopWord 0x1#4 0x5#4 v := (mopWord_eq_ofNat 0x1#4 0x5#4 v).symm
  rw [hword]
  simp [decode, decodeWr, (icrHighBits_eq_zero_iff v).2 h]

/-- Settles O13: the bits of an operand below 8 as numbers, and the NEST fault exactly for bit 2 in ISR context. -/
theorem wrIcrSetsTheEnables : Obligations.WrIcrSetsTheEnables := by
  unfold Obligations.WrIcrSetsTheEnables
  intro v s hv
  have hbit0 : v.getLsbD 0 = decide (v.toNat % 2 = 1) := by rw [getLsbD_eq_decide, pow_zero, Nat.div_one]
  have hbit1 : v.getLsbD 1 = decide (v.toNat / 2 % 2 = 1) := by rw [getLsbD_eq_decide, pow_one]
  have hbit2 := getLsbD_two_of_lt hv
  refine ⟨decode_wrIcr hv, fun hok => ?_, fun hc hge => exec_wrIcr_nest hc (by rw [hbit2, decide_eq_true hge])⟩
  rw [← hbit0, ← hbit1, ← hbit2]
  refine exec_wrIcr_writes fun ⟨hc, hI⟩ => ?_
  rw [hbit2, decide_eq_true_eq] at hI
  obtain hmain | hlt := hok
  · exact absurd (hmain.symm.trans hc) (by decide)
  · omega

end Sys2Proof.Machine
end

section
/-! The bus writes from a working register (R135 to R139): the source is read, then the byte goes where the immediate
would. -/

namespace Sys2Proof.Machine

open Sys2Proof.Claims

/-- R135 to R137: a register write to the controller is a checked write of the byte read from the register. -/
theorem exec_wrrController {i : Instr} {r : WReg} (h : i ∈ [Instr.wrrNvdat r, .wrrNvadrl r, .wrrNvadrh r]) :
    ∃ f : Byte → State → State, ∀ s, exec i s = withWorking i r (fun v => nvmcWrite i (f v) s) s := by
  simp only [List.mem_cons, List.not_mem_nil, or_false] at h
  obtain rfl | rfl | rfl := h
  · exact ⟨fun v t => { t with nvdat := v }, fun _ => rfl⟩
  · exact ⟨setAddrLow, fun _ => rfl⟩
  · exact ⟨setAddrHigh, fun _ => rfl⟩

/-- R135, R203: an unwritten source faults, busy or not. -/
theorem exec_wrrController_unwritten {i : Instr} {r : WReg} {s : State}
    (hi : i ∈ [Instr.wrrNvdat r, .wrrNvadrl r, .wrrNvadrh r]) (h : working r s = none) :
    exec i s = .next (withFault .unwritten (encode i) (some r) s) := by
  obtain ⟨f, hf⟩ := exec_wrrController hi
  rw [hf, withWorking_of_working_none _ _ h]

/-- R121, R135: with a written source the busy check is next. -/
theorem exec_wrrController_inFlight {i : Instr} {r : WReg} {s : State}
    (hi : i ∈ [Instr.wrrNvdat r, .wrrNvadrl r, .wrrNvadrh r]) (hw : working r s ≠ none) (h : inFlight s) :
    exec i s = .next (withFault .nvmcBusy (encode i) none s) := by
  obtain ⟨f, hf⟩ := exec_wrrController hi
  obtain ⟨v, hv⟩ := Option.ne_none_iff_exists'.1 hw
  rw [hf, withWorking_of_working _ _ hv, nvmcWrite_of_inFlight _ _ h]

/-- Settles O14: the source register first, then the busy check, then the write the immediate form makes. -/
theorem wrrToTheControllerWritesTheRegister : Obligations.WrrToTheControllerWritesTheRegister := by
  unfold Obligations.WrrToTheControllerWritesTheRegister
  refine fun r s => ⟨⟨mopWord_registerData _ _ r, mopWord_registerData _ _ r, mopWord_registerData _ _ r⟩,
    fun v hv hready => ?_, fun i hi => ⟨exec_wrrController_unwritten hi, exec_wrrController_inFlight hi⟩⟩
  rw [← setAddrLow_eq, ← setAddrHigh_eq]
  exact ⟨(withWorking_of_working _ _ hv).trans (nvmcWrite_of_ready _ _ hready),
    (withWorking_of_working _ _ hv).trans (nvmcWrite_of_ready _ _ hready),
    (withWorking_of_working _ _ hv).trans (nvmcWrite_of_ready _ _ hready)⟩

/-- Settles O15: as O14, without the busy check. -/
theorem wrrToTheCsmWritesTheRegister : Obligations.WrrToTheCsmWritesTheRegister := by
  unfold Obligations.WrrToTheCsmWritesTheRegister
  refine fun r s => ⟨⟨mopWord_registerData _ _ r, mopWord_registerData _ _ r⟩, fun v hv => ?_, fun h => ?_⟩
  · exact ⟨withWorking_of_working _ _ hv, withWorking_of_working _ _ hv⟩
  · exact ⟨withWorking_of_working_none _ _ h, withWorking_of_working_none _ _ h⟩

end Sys2Proof.Machine
end

section
/-! The bus reads (R140 to R147): each is `busRead` of one byte of the state before the step. -/

namespace Sys2Proof.Machine

open Sys2Proof.Claims

/-- R79: bit 2 is WE_ARMED and bit 1 BUSY. -/
theorem nvcrByte_eq (s : State) : nvcrByte s = byte (4 * s.weArmed.toNat + 2 * s.busy.toNat) := by
  have hbits : ∀ a b : Bool, 0#5 ++ BitVec.ofBool a ++ BitVec.ofBool b ++ 0#1 = byte (4 * a.toNat + 2 * b.toNat) := by
    decide
  exact hbits _ _

/-- R81: bits 2, 1 and 0 are I, PIN_EN and GRP_EN. -/
theorem icrByte_eq (s : State) : icrByte s = byte (4 * s.iFlag.toNat + 2 * s.pinEn.toNat + s.grpEn.toNat) := by
  have hbits : ∀ a b c : Bool, 0#5 ++ BitVec.ofBool a ++ BitVec.ofBool b ++ BitVec.ofBool c =
      byte (4 * a.toNat + 2 * b.toNat + c.toNat) := by decide
  exact hbits _ _ _

/-- R37: bits 4 to 0 are PGM_BUSY, IN, PEND, S and T. -/
theorem statByte_eq (s : State) :
    statByte s = byte (16 * s.pgmBusy.toNat + 8 * s.inLine.toNat + 4 * s.pend.toNat + 2 * s.sLine.toNat +
      s.tFlag.toNat) := by
  have hbits : ∀ a b c d e : Bool, 0#3 ++ BitVec.ofBool a ++ BitVec.ofBool b ++ BitVec.ofBool c ++ BitVec.ofBool d ++
      BitVec.ofBool e = byte (16 * a.toNat + 8 * b.toNat + 4 * c.toNat + 2 * d.toNat + e.toNat) := by decide
  exact hbits _ _ _ _ _

/-- Settles O16: every read is `busRead` of the register's view, and the views are the bytes of R37, R79, R80, R81. -/
theorem busReadsReturnTheRegister : Obligations.BusReadsReturnTheRegister := by
  unfold Obligations.BusReadsReturnTheRegister
  intro r s
  rw [← nvcrByte_eq, ← icrByte_eq, ← statByte_eq, ← loByte_nvAddr, ← hiByte_nvAddr]
  refine ⟨?_, busRead_eq r _ s, busRead_eq r _ s, busRead_eq r _ s, busRead_eq r _ s, busRead_eq r _ s,
    busRead_eq r _ s, busRead_eq r _ s, busRead_eq r _ s⟩
  cases r <;> rfl

end Sys2Proof.Machine
end

section
/-! The programming events (R149, R150): each is one write of PGM_BUSY. -/

namespace Sys2Proof.Machine

/-- Settles O27: each event writes PGM_BUSY alone. -/
theorem pgmEventsSetAndClear : Obligations.PgmEventsSetAndClear := by
  unfold Obligations.PgmEventsSetAndClear
  exact ⟨by decide, fun _ => ⟨rfl, rfl⟩⟩

end Sys2Proof.Machine
end

section
/-! The busy check over every word (R121): what a word of CLASS 1 or 2 with SEL below 4, or of CLASS 3, decodes to. -/

namespace Sys2Proof.Machine

open Sys2Proof.Claims

/-! ### The decoder by CLASS -/

theorem decode_of_cls_one {w : Word} (h : cls w = 1) : decode w = decodeWr (selField w) (dataField w) := by
  simp [decode, (toNat_fields w).1, h]

theorem decode_of_cls_two {w : Word} (h : cls w = 2) : decode w = decodeWrr (selField w) (dataField w) := by
  simp [decode, (toNat_fields w).1, h]

theorem decode_of_cls_three {w : Word} (h : cls w = 3) : decode w = decodeRd (selField w) (dataField w) := by
  simp [decode, (toNat_fields w).1, h]

/-- R74: DATA that names a register is that register's DATA. -/
theorem registerOperand_eq_some {d : Byte} {r : WReg} (h : registerOperand d = some r) : d = registerData r := by
  revert d r
  decide

/-- R73, R86: a MOP read with a register operand is the one of the register that DATA names. -/
theorem decodeWithRegister_eq_mop {f : WReg → Instr} {c : Reserved} {d : Byte} {i : Instr}
    (h : decodeWithRegister f c d = .mop i) : ∃ r, d = registerData r ∧ i = f r := by
  unfold decodeWithRegister at h
  split at h
  next r hr => exact ⟨r, registerOperand_eq_some hr, (Decoded.mop.inj h).symm⟩
  next => cases h

/-- R80: the four registers of the NVM controller. -/
theorem sel_controller : ∀ sel : BitVec 4, sel.toNat < 4 →
    sel = 0#4 ∨ sel = 1#4 ∨ sel = 2#4 ∨ sel = 3#4 := by decide

/-! ### CLASS 1: the immediate writes -/

/-- The bus writes of an immediate with SEL below 4: the four strobes, and the writes of DATA `d`. -/
def controllerImmediates (d : Byte) : List Instr :=
  [.wrNvcrClr, .wrNvcrRe, .wrNvcrWs, .wrNvcrWe, .wrNvdat d, .wrNvadrl d, .wrNvadrh d]

/-- R79: a strobe MOP is the word of its strobe value. -/
theorem decodeWr_strobe {d : Byte} {i : Instr} (h : decodeWr 0#4 d = .mop i) :
    encode i = some (mopWord 1#4 0#4 d) ∧ i ∈ controllerImmediates d := by
  simp only [decodeWr, BitVec.toNat_ofNat, Nat.zero_mod] at h
  split at h
  case h_5 => cases h
  all_goals
    next hd =>
    obtain rfl := Decoded.mop.inj h
    have hdata : BitVec.ofNat 8 d.toNat = d := BitVec.ofNat_toNat 8 d
    rw [hd] at hdata
    subst hdata
    exact ⟨rfl, by simp [controllerImmediates]⟩

theorem decodeWr_controller {sel : BitVec 4} {d : Byte} {i : Instr} (hs : sel.toNat < 4)
    (h : decodeWr sel d = .mop i) : encode i = some (mopWord 1#4 sel d) ∧ i ∈ controllerImmediates d := by
  obtain rfl | rfl | rfl | rfl := sel_controller sel hs
  · exact decodeWr_strobe h
  all_goals
    obtain rfl := Decoded.mop.inj h
    exact ⟨rfl, by simp [controllerImmediates]⟩

/-- R121: every one of them makes the busy check. -/
theorem exec_controllerImmediates_inFlight {i : Instr} {d : Byte} {s : State} (hi : i ∈ controllerImmediates d)
    (h : inFlight s) : exec i s = .next (withFault .nvmcBusy (encode i) none s) := by
  simp only [controllerImmediates, List.mem_cons, List.not_mem_nil, or_false] at hi
  obtain rfl | rfl | rfl | rfl | rfl | rfl | rfl := hi
  · rw [exec_wrNvcrClr, nvmcWrite_of_inFlight _ _ h]
  · rw [exec_wrNvcrRe, nvmcWrite_of_inFlight _ _ h]
  · rw [exec_wrNvcrWs, nvmcWrite_of_inFlight _ _ h]
  · exact exec_wrNvcrWe_of_inFlight h
  · rw [exec_wrNvdat, nvmcWrite_of_inFlight _ _ h]
  · rw [exec_wrNvadrl, nvmcWrite_of_inFlight _ _ h]
  · rw [exec_wrNvadrh, nvmcWrite_of_inFlight _ _ h]

/-! ### CLASS 2: the writes from a working register -/

theorem decodeWrr_controller {sel : BitVec 4} {d : Byte} {i : Instr} (hs : sel.toNat < 4)
    (h : decodeWrr sel d = .mop i) :
    ∃ r, d = registerData r ∧ encode i = some (mopWord 2#4 sel d) ∧
      i ∈ [Instr.wrrNvdat r, .wrrNvadrl r, .wrrNvadrh r] := by
  obtain rfl | rfl | rfl | rfl := sel_controller sel hs
  · cases h
  all_goals
    obtain ⟨r, rfl, rfl⟩ := decodeWithRegister_eq_mop h
    exact ⟨r, rfl, rfl, by simp⟩

/-! ### CLASS 3: the reads -/

/-- The bus reads into `r`. -/
def busReads (r : WReg) : List Instr :=
  [.rdNvcr r, .rdNvdat r, .rdNvadrl r, .rdNvadrh r, .rdDisp r, .rdIcr r, .rdStat r, .rdDir r]

theorem decodeRd_mem_busReads {sel : BitVec 4} {d : Byte} {i : Instr} (h : decodeRd sel d = .mop i) :
    ∃ r, i ∈ busReads r := by
  unfold decodeRd at h
  split at h
  case h_9 => cases h
  all_goals
    obtain ⟨r, -, rfl⟩ := decodeWithRegister_eq_mop h
    exact ⟨r, by simp [busReads]⟩

/-- R120, R121: a bus read makes no check; it is `busRead` of some byte. -/
theorem exec_busReads {i : Instr} {r : WReg} (hi : i ∈ busReads r) (s : State) : ∃ v, exec i s = busRead r v s := by
  simp only [busReads, List.mem_cons, List.not_mem_nil, or_false] at hi
  obtain rfl | rfl | rfl | rfl | rfl | rfl | rfl | rfl := hi <;> exact ⟨_, rfl⟩

/-- Settles O45: the word's CLASS and SEL name the MOPs it can be, each of which makes the busy check or is a read. -/
theorem busyControllerTakesNoWrite : Obligations.BusyControllerTakesNoWrite := by
  unfold Obligations.BusyControllerTakesNoWrite
  intro w i s hdec
  obtain ⟨hcls, hsel, hdata⟩ := toNat_fields w
  refine ⟨fun hclass hs hbusy hsource => ?_, fun hclass => ?_⟩
  · rw [← hsel] at hs
    obtain hclass | hclass := hclass
    · have hfield : classField w = 1#4 := BitVec.eq_of_toNat_eq (hcls.trans hclass)
      obtain ⟨hword, hi⟩ := decodeWr_controller hs (decode_of_cls_one hclass ▸ hdec)
      rw [exec_controllerImmediates_inFlight hi hbusy, hword, ← hfield, mopWord_fields]
    · have hfield : classField w = 2#4 := BitVec.eq_of_toNat_eq (hcls.trans hclass)
      obtain ⟨r, hd, hword, hi⟩ := decodeWrr_controller hs (decode_of_cls_two hclass ▸ hdec)
      have hwritten : working r s ≠ none := hsource r hclass (by rw [← hdata, hd, toNat_registerData])
      rw [exec_wrrController_inFlight hi hwritten hbusy, hword, ← hfield, mopWord_fields]
  · obtain ⟨r, hi⟩ := decodeRd_mem_busReads (decode_of_cls_three hclass ▸ hdec)
    obtain ⟨v, hv⟩ := exec_busReads hi s
    exact ⟨_, hv, rfl⟩

end Sys2Proof.Machine
end

section
/-! NOP and the sequencer actions with no condition (R163, R174, R175), and the critical section's restore, which faults
where it would set I in the handler (R176, R208). -/

namespace Sys2Proof.Machine

open Sys2Proof.Claims

theorem exec_nop (s : State) : exec .nop s = .next (ends s) := rfl

theorem exec_tgls (s : State) : exec .tgls s = .next (ends { s with sLine := !s.sLine }) := rfl

theorem exec_cliSave (s : State) : exec .cliSave s = .next (ends { s with savedI := s.iFlag, iFlag := false }) := rfl

/-- R176, R208: SAVED_I = 1 in the handler faults. -/
theorem exec_iRestore_nest {s : State} (hc : s.ctx = .isr) (hI : s.savedI = true) :
    exec .iRestore s = .next (withFault .nest (encode .iRestore) none s) := by
  change execIRestore s = _
  rw [execIRestore, if_pos ⟨hc, hI⟩, raise_eq, faulted_eq_withFault]

/-- R176: anywhere else, or with SAVED_I = 0, I is restored. -/
theorem exec_iRestore_restores {s : State} (h : ¬ (s.ctx = .isr ∧ s.savedI = true)) :
    exec .iRestore s = .next (ends { s with iFlag := s.savedI }) := by
  change execIRestore s = _
  rw [execIRestore, if_neg h, retire_eq_ends]

/-- Settles O5: neither MOP has a condition. -/
theorem nopAdvancesAndTglsInverts : Obligations.NopAdvancesAndTglsInverts := by
  unfold Obligations.NopAdvancesAndTglsInverts
  exact ⟨rfl, rfl, fun s => ⟨exec_nop s, exec_tgls s⟩⟩

/-- Settles O21: the NEST fault is exactly ISR context with SAVED_I = 1, and either other hypothesis excludes it. -/
theorem criticalSectionSavesAndRestores : Obligations.CriticalSectionSavesAndRestores := by
  unfold Obligations.CriticalSectionSavesAndRestores
  refine ⟨rfl, rfl, fun s => ⟨exec_cliSave s, fun hok => exec_iRestore_restores fun ⟨hc, hI⟩ => ?_,
    exec_iRestore_nest⟩⟩
  obtain hmain | hclear := hok
  · exact absurd (hmain.symm.trans hc) (by decide)
  · exact absurd (hclear.symm.trans hI) (by decide)

end Sys2Proof.Machine
end

section
/-! INC and ENCOUT (R171, R172): what each does with the byte of its working register, in the claims' own words. -/

namespace Sys2Proof.Machine

open Sys2Proof.Claims

theorem exec_inc (s : State) :
    exec .inc s =
      withWorking .inc .cur (fun v => .next (retire (writeWorking .nxt (incDigit s.params.incMode v) s))) s := rfl

theorem exec_encout (r : WReg) (s : State) :
    exec (.encout r) s =
      withWorking (.encout r) r (fun v => .next (retire { s with disp := displayPattern s.params v })) s := rfl

/-- R8, R171: the two computations of `(v + 1) mod 10`, one per INC_MODE. -/
theorem incDigit_eq_nextDigit (p : Params) (v : Byte) : incDigit p.incMode v = nextDigit p v := by
  unfold nextDigit
  cases p.incMode <;> rfl

/-- A residue modulo 10 is a digit as a byte too. -/
theorem toNat_byte_mod_ten_le (n : Nat) : (byte (n % 10)).toNat ≤ 9 := by
  rw [byte, BitVec.toNat_ofNat]
  omega

/-- R171: the result is a digit under both INC_MODEs. -/
theorem toNat_nextDigit_le (p : Params) (v : Byte) : (nextDigit p v).toNat ≤ 9 := by
  unfold nextDigit
  split
  · exact toNat_byte_mod_ten_le _
  · exact toNat_byte_mod_ten_le _

/-- R101: ENCODE's table entry, looked up in the table as a list. -/
theorem encodeDigit_eq_glyph (p : Params) (d : Byte) : encodeDigit p d = glyph p d := by
  have hindex : (digitIndex d).val < p.segLut.toList.length := by simp
  rw [encodeDigit_eq, glyph, ← digitIndex_val, ← List.getElem_eq_getD (h := hindex), Vector.getElem_toList]

/-- R105: inverting eight lines is subtracting from 0xFF. -/
theorem outPattern_eq_sub (g : Byte) : outPattern g = 0xFF#8 - g :=
  (BitVec.allOnes_sub_eq_not g).symm

/-- R107: DISPLAY. -/
theorem displayPattern_eq_display (p : Params) (d : Byte) : displayPattern p d = display p d := by
  rw [displayPattern, outPattern_eq_sub, encodeDigit_eq_glyph, display]

/-- Settles O18: INC's byte is the claims' next digit, and the UNWRITTEN check is that of every register source. -/
theorem incAddsOneModuloTen : Obligations.IncAddsOneModuloTen := by
  unfold Obligations.IncAddsOneModuloTen
  refine ⟨rfl, fun s => ⟨fun v hv => ?_, toNat_nextDigit_le s.params, fun hv => ?_⟩⟩
  · rw [exec_inc, withWorking_of_working (r := .cur) _ _ hv, incDigit_eq_nextDigit, writeWorking_eq_setWorking,
      retire_eq_ends]
    rfl
  · rw [exec_inc, withWorking_of_working_none (r := .cur) _ _ hv]
    rfl

/-- Settles O19: ENCOUT's pattern is the claims' DISPLAY, clamp included; the UNWRITTEN check is the shared one. -/
theorem encoutDrivesTheDisplay : Obligations.EncoutDrivesTheDisplay := by
  unfold Obligations.EncoutDrivesTheDisplay
  refine fun r s => ⟨?_, fun v hv => ?_, fun hv => ?_⟩
  · cases r <;> decide
  · rw [exec_encout, withWorking_of_working _ _ hv, displayPattern_eq_display, retire_eq_ends]
  · rw [exec_encout, withWorking_of_working_none _ _ hv]

end Sys2Proof.Machine
end

section
/-! The edge filter (R170): FLIPT by context and T, and that no other instruction but RESET writes T. -/

namespace Sys2Proof.Machine

open Sys2Proof.Claims

/-- R170: the first edge of a press sets T and returns. -/
theorem exec_flipt_first {s : State} (hc : s.ctx = .isr) (hT : s.tFlag = false) :
    exec .flipt s = .next (interruptReturn { s with tFlag := true }) := by
  change execFlipt s = _
  simp [execFlipt, hc, hT]

/-- R170: the second edge clears T and goes on. -/
theorem exec_flipt_second {s : State} (hc : s.ctx = .isr) (hT : s.tFlag = true) :
    exec .flipt s = .next (retire { s with tFlag := false }) := by
  change execFlipt s = _
  simp [execFlipt, hc, hT]

/-- R170: there is no handler to return from in MAIN context. -/
theorem exec_flipt_main {s : State} (hc : s.ctx = .main) :
    exec .flipt s = .next (withFault .context (encode .flipt) none s) := by
  change execFlipt s = _
  rw [execFlipt, if_pos hc, raise_eq, faulted_eq_withFault]

/-- R27: in ISR context the end of a MOP moves HPC alone. -/
theorem retire_of_isr {s : State} (h : s.ctx = .isr) : retire s = { s with hpc := s.hpc + 1, weArmed := false } := by
  simp [retire, advance, h]

/-- R30: FLIPT and RESET are the two effects that write T. -/
theorem OwnEffect.tFlag_eq {i : Instr} {s t : State} (hflipt : i ≠ .flipt) (hreset : i ≠ .evReset)
    (h : OwnEffect i s t) : t.tFlag = s.tFlag := by
  cases i with
  | flipt => exact absurd rfl hflipt
  | evReset => exact absurd rfl hreset
  | idle => exact h.elim
  | wrIcr | iRestore | reti | evCommit => obtain ⟨-, rfl⟩ := h; rfl
  | wrrNvdat | wrrNvadrl | wrrNvadrh | wrrDisp | wrrDir | rdNvcr | rdNvdat | rdNvadrl | rdNvadrh | rdDisp | rdIcr
  | rdStat | rdDir | inc | encout | segEncode | segOutpat => obtain ⟨v, rfl⟩ := h; rfl
  | nop | wrNvcrClr | wrNvcrRe | wrNvcrWs | wrNvcrWe | wrNvdat | wrNvadrl | wrNvadrh | wrDisp | wrDir | waitrdy | tgls
  | cliSave | evEdge | evPgmset | evPgmclr => cases h; rfl

/-- R30: a fault and a hold leave T alone as well. -/
theorem exec_keeps_tFlag {i : Instr} {s t : State} (hflipt : i ≠ .flipt) (hreset : i ≠ .evReset)
    (h : exec i s = .next t) : t.tFlag = s.tFlag := by
  obtain ⟨k, r, rfl, -⟩ | rfl | hown := exec_cases h
  · rfl
  · rfl
  · exact hown.tFlag_eq hflipt hreset

/-- Settles O20: FLIPT's three cases, and the frame of every other instruction from `exec_cases`. -/
theorem fliptFiltersTheEdges : Obligations.FliptFiltersTheEdges := by
  unfold Obligations.FliptFiltersTheEdges
  exact ⟨rfl, fun s => ⟨exec_flipt_first,
    fun hc hT => (exec_flipt_second hc hT).trans (congrArg _ (retire_of_isr hc)),
    exec_flipt_main, fun _ _ => exec_keeps_tFlag⟩⟩

end Sys2Proof.Machine
end

section
/-! The edge event (R160): one toggle of IN, and a latch of PEND behind both enables. -/

namespace Sys2Proof.Machine

theorem exec_evEdge (s : State) :
    exec .evEdge s = .next { s with inLine := !s.inLine, pend := s.pend || (s.grpEn && s.pinEn) } := rfl

/-- Settles O24: what the two enables let into PEND. -/
theorem edgeIsLatchedWhileEnabled : Obligations.EdgeIsLatchedWhileEnabled := by
  unfold Obligations.EdgeIsLatchedWhileEnabled
  refine ⟨by decide, rfl, fun s => ⟨fun hg hp => ?_, fun hoff => ?_⟩⟩
  · rw [exec_evEdge, hg, hp, Bool.and_true, Bool.or_true]
  · have hmasked : (s.grpEn && s.pinEn) = false := Bool.and_eq_false_iff.2 hoff
    rw [exec_evEdge, hmasked, Bool.or_false]

end Sys2Proof.Machine
end

section
/-! Interrupt entry (R206): the SEQ step takes it exactly when IRQ is true, and no instruction enters ISR context. -/

namespace Sys2Proof.Machine

open Sys2Proof.Claims

/-! ### A request is taken before any fetch (R161, R162) -/

theorem irq_eq_true_iff_request (s : State) : irq s = true ↔ request s := irq_iff s

theorem seqStep_of_request {s : State} (hfault : s.fault = none) (hrefused : s.refused = false) (h : request s) :
    seqStep s = .next (interruptEntry s) := by
  simp [seqStep, hfault, hrefused, runSequencer, (irq_eq_true_iff_request s).2 h]

/-! ### Nothing else enters ISR context -/

/-- R27: an effect writes CTX only by returning to MAIN or by RESET. -/
theorem OwnEffect.ctx_eq_or_main {i : Instr} {s t : State} (h : OwnEffect i s t) : t.ctx = s.ctx ∨ t.ctx = .main := by
  cases i with
  | evReset => subst h; exact .inr (resetEffect_ctx s)
  | reti => obtain ⟨-, rfl⟩ := h; exact .inr (interruptReturn_ctx s)
  | flipt =>
    obtain ⟨-, rfl | rfl⟩ := h
    · exact .inl rfl
    · exact .inr rfl
  | idle => exact h.elim
  | wrIcr | iRestore | evCommit => obtain ⟨-, rfl⟩ := h; exact .inl rfl
  | wrrNvdat | wrrNvadrl | wrrNvadrh | wrrDisp | wrrDir | rdNvcr | rdNvdat | rdNvadrl | rdNvadrh | rdDisp | rdIcr
  | rdStat | rdDir | inc | encout | segEncode | segOutpat => obtain ⟨v, rfl⟩ := h; exact .inl rfl
  | nop | wrNvcrClr | wrNvcrRe | wrNvcrWs | wrNvcrWe | wrNvdat | wrNvadrl | wrNvadrh | wrDisp | wrDir | waitrdy | tgls
  | cliSave | evEdge | evPgmset | evPgmclr => subst h; exact .inl rfl

/-- R27: an instruction run in MAIN context, event or MOP, ends in MAIN context. -/
theorem exec_keeps_main {i : Instr} {s t : State} (hmain : s.ctx = .main) (h : exec i s = .next t) :
    t.ctx = .main := by
  obtain ⟨k, r, rfl, -⟩ | rfl | hown := exec_cases h
  · exact hmain
  · exact hmain
  · exact hown.ctx_eq_or_main.elim (·.trans hmain) id

/-- R162, R206: a SEQ step from MAIN into ISR context is interrupt entry. -/
theorem seqStep_eq_interruptEntry_of_enters_isr {s t : State} (h : seqStep s = .next t) (hmain : s.ctx = .main)
    (hisr : t.ctx = .isr) : request s ∧ t = interruptEntry s := by
  have hleft : t.ctx ≠ .main := by rw [hisr]; decide
  obtain ⟨-, -, ⟨hirq, ht⟩ | ⟨-, -, rfl⟩ | ⟨-, w, -, -, rfl⟩ | ⟨-, w, i, -, -, hexec⟩⟩ := seqStep_cases h
  · exact ⟨(irq_eq_true_iff_request s).1 hirq, ht⟩
  · exact absurd hmain hleft
  · exact absurd hmain hleft
  · exact absurd (exec_keeps_main hmain hexec) hleft

/-- R17, R206: so is every step, up to the turn it takes; ENV's turn delivers an event and enters no context. -/
theorem step_eq_interruptEntry_of_enters_isr {s t : State} (h : step s = .next t) (hmain : s.ctx = .main)
    (hisr : t.ctx = .isr) : request s ∧ ∃ rest, t = interruptEntry { s with turns := rest } := by
  obtain ⟨u, -, hu, hseq⟩ | ⟨e, u, -, hu, henv⟩ := step_cases s
  all_goals have hmain' : u.ctx = .main := by rw [hu]; exact hmain
  · obtain ⟨hrequest, ht⟩ := seqStep_eq_interruptEntry_of_enters_isr (hseq ▸ h) hmain' hisr
    rw [hu] at hrequest ht
    exact ⟨hrequest, u.turns, ht⟩
  · have hstay := exec_keeps_main hmain' (henv ▸ h)
    exact absurd (hstay.symm.trans hisr) (by decide)

/-- Settles O35: a request is taken before the fetch, and a step that leaves MAIN for ISR context is that entry. -/
theorem interruptEntryExactlyOnRequest : Obligations.InterruptEntryExactlyOnRequest := by
  unfold Obligations.InterruptEntryExactlyOnRequest
  refine ⟨fun s u hturn hfault hrefused hrequest => ?_, fun s t h hmain hisr => ?_⟩
  · rw [step_of_seqTurn hturn, seqStep_of_request hfault hrefused hrequest, interruptEntry]
  · obtain ⟨hrequest, rest, rfl⟩ := step_eq_interruptEntry_of_enters_isr h hmain hisr
    exact ⟨hrequest, rfl, rfl, rfl, rfl⟩

end Sys2Proof.Machine
end

section
/-! The return from the handler (R207): by RETI, and by FLIPT on the first edge of a press. -/

namespace Sys2Proof.Machine

open Sys2Proof.Claims

theorem exec_reti_isr {s : State} (hc : s.ctx = .isr) : exec .reti s = .next (interruptReturn s) := by
  change execReti s = _
  simp [execReti, hc]

/-- R207: there is no handler to return from in MAIN context. -/
theorem exec_reti_main {s : State} (hc : s.ctx = .main) :
    exec .reti s = .next (withFault .context (encode .reti) none s) := by
  change execReti s = _
  rw [execReti, if_pos hc, raise_eq, faulted_eq_withFault]

/-- Settles O22: both MOPs make the one `interruptReturn`, FLIPT after setting T. -/
theorem retiReturnsToMain : Obligations.RetiReturnsToMain := by
  unfold Obligations.RetiReturnsToMain
  exact ⟨rfl, fun s => ⟨exec_reti_isr, exec_flipt_first, exec_reti_main⟩⟩

end Sys2Proof.Machine
end

section
/-! RESET (R231 to R233): the values of R41 are `resetEffect`'s own lemmas; what is left is the cell a cut-off commit may
spoil, and that with I = 0 nothing is requested. -/

namespace Sys2Proof.Machine

open Sys2Proof.Claims

theorem exec_evReset (s : State) : exec .evReset s = .next (resetEffect s) := rfl

/-! ### The cut-off commit (R233) -/

theorem toNat_commitAddr (s : State) : (commitAddr s).toNat = latchAddr s := toNat_narrowAddr _ _

/-- R233: with no write in flight there is no commit to cut off. -/
theorem cutCommit_of_not_busy {s : State} (h : s.busy = false) : cutCommit s = s.nvm := by simp [cutCommit, h]

/-- R233: the draw of a cut-off commit lands in the cell at LADR. -/
theorem memRead_cutCommit_other (s : State) {a : Nat} (ha : a ≠ latchAddr s) :
    memRead (cutCommit s) a = memRead s.nvm a := by
  unfold cutCommit
  split
  · exact memRead_memWrite_other _ _ _ _ (by rwa [toNat_commitAddr])
  · rfl

/-- Settles O28: the fields by the lemmas on `resetEffect`, NVM by those on `cutCommit`, and narrowed draws are in range. -/
theorem resetEventGivesTheResetValues : Obligations.ResetEventGivesTheResetValues := by
  unfold Obligations.ResetEventGivesTheResetValues
  refine ⟨by decide, fun s => ⟨resetEffect s, exec_evReset s, by simp, by simp, by simp,
    cutCommit_of_not_busy, fun _ => memRead_cutCommit_other s, ⟨?_, ?_⟩, by simp⟩⟩
  · exact narrowAddr_lt (Config.drawAddr s.draws)
  · exact narrowAddr_lt (Config.drawAddr (s.draws + 1))

/-! ### Masked after RESET (R232) -/

theorem not_request_of_iFlag_eq_false {s : State} (h : s.iFlag = false) : ¬ request s := by
  rintro ⟨-, hI, -⟩
  simp [h] at hI

/-- Settles O48: the values of R41 with I = 0 among them, which alone shuts out a request. -/
theorem resetStartsMaskedInMain : Obligations.ResetStartsMaskedInMain := by
  unfold Obligations.ResetStartsMaskedInMain
  rintro t (rfl | ⟨s, h⟩)
  · exact ⟨rfl, rfl, rfl, rfl, rfl, rfl, not_request_of_iFlag_eq_false rfl⟩
  · obtain rfl : resetEffect s = t := Host.Outcome.next.inj ((exec_evReset s).symm.trans h)
    exact ⟨rfl, rfl, rfl, rfl, rfl, rfl, not_request_of_iFlag_eq_false (resetEffect_iFlag s)⟩

end Sys2Proof.Machine
end

section
/-! The decoder and the encoder are inverse to each other (R87, R88), class by class; and the words with no
instruction are those of the twelve conditions (R86). -/

namespace Sys2Proof.Machine

open Sys2Proof.Claims

/-! ### From the instruction to its word and back (R88) -/

/-- Settles O1: CLASS and SEL of the word select the decoder's branch, and the operand stands in DATA. -/
theorem encodedInstructionDecodesBack : Obligations.EncodedInstructionDecodesBack := by
  unfold Obligations.EncodedInstructionDecodesBack
  intro i w hwf hw
  cases i with
  | segEncode | segOutpat => cases hw
  | wrNvdat v | wrNvadrl v | wrNvadrh v | wrDisp v | wrDir v =>
    obtain rfl := Option.some.inj hw
    simp [decode, decodeWr, decodedInstr]
  | wrIcr v =>
    obtain rfl := Option.some.inj hw
    have hv : v.extractLsb' 3 5 = 0#5 := by simpa [wellFormed] using hwf
    simp [decode, decodeWr, decodedInstr, hv]
  | wrrNvdat r | wrrNvadrl r | wrrNvadrh r | wrrDisp r | wrrDir r =>
    obtain rfl := Option.some.inj hw
    simp [decode, decodeWrr, decodeWithRegister, decodedInstr]
  | rdNvcr r | rdNvdat r | rdNvadrl r | rdNvadrh r | rdDisp r | rdIcr r | rdStat r | rdDir r =>
    obtain rfl := Option.some.inj hw
    simp [decode, decodeRd, decodeWithRegister, decodedInstr]
  | encout r =>
    obtain rfl := Option.some.inj hw
    simp [decode, decodeAct, decodeWithRegister, decodedInstr]
  | nop | wrNvcrClr | wrNvcrRe | wrNvcrWs | wrNvcrWe | waitrdy | inc | flipt | tgls | cliSave | iRestore | reti | idle
  | evEdge | evCommit | evPgmset | evPgmclr | evReset =>
    obtain rfl := Option.some.inj hw
    decide

/-! ### From the word to its instruction and back (R87) -/

theorem eq_ofNat_of_toNat_eq {n k : Nat} {x : BitVec n} (h : x.toNat = k) : x = BitVec.ofNat n k := by
  rw [← h, BitVec.ofNat_toNat, BitVec.setWidth_eq]

/-- `i` is well-formed and `w` is its word. -/
def HasWord (i : Instr) (w : Word) : Prop := wellFormed i = true ∧ encode i = some w

/-- Where a decoder's branch answers one fixed MOP, that is the instruction. -/
theorem hasWord_of_mop {i₀ i : Instr} {w : Word} (h₀ : HasWord i₀ w) (h : decodedInstr (.mop i₀) = some i) :
    HasWord i w := Option.some.inj h ▸ h₀

theorem hasWord_of_event {e : Event} {i : Instr} {w : Word} (h₀ : HasWord (eventInstr e) w)
    (h : decodedInstr (.event e) = some i) : HasWord i w := Option.some.inj h ▸ h₀

theorem decodeWithRegister_hasWord {f : WReg → Instr} {r : Reserved} {c s : BitVec 4} {d : Byte} {i : Instr}
    (hf : ∀ q, HasWord (f q) (mopWord c s (registerData q)))
    (h : decodedInstr (decodeWithRegister f r d) = some i) : HasWord i (mopWord c s d) := by
  unfold decodeWithRegister at h
  split at h
  next q hq =>
    rw [registerOperand_eq_some hq]
    exact hasWord_of_mop (hf q) h
  next => cases h

theorem decodePlainAction_hasWord {i₀ i : Instr} {c s : BitVec 4} {d : Byte} (h₀ : HasWord i₀ (mopWord c s 0#8))
    (h : decodedInstr (decodePlainAction i₀ d) = some i) : HasWord i (mopWord c s d) := by
  unfold decodePlainAction at h
  split at h
  next hd => exact hasWord_of_mop (hd ▸ h₀) h
  next => cases h

/-- CLASS 0x1 (R76, R79, R81): the strobe values, the writes of DATA, and ICR's operand of three bits. -/
theorem decodeWr_hasWord {s : BitVec 4} {d : Byte} {i : Instr} (h : decodedInstr (decodeWr s d) = some i) :
    HasWord i (mopWord 1#4 s d) := by
  unfold decodeWr at h
  split at h
  case h_1 hs =>
    obtain rfl : s = 0#4 := BitVec.eq_of_toNat_eq hs
    split at h
    case h_5 => cases h
    all_goals
      next hd =>
      obtain rfl := eq_ofNat_of_toNat_eq hd
      exact hasWord_of_mop ⟨rfl, rfl⟩ h
  case h_6 hs =>
    obtain rfl : s = 5#4 := BitVec.eq_of_toNat_eq hs
    split at h
    next hd => exact hasWord_of_mop ⟨by simp [wellFormed, hd], rfl⟩ h
    next => cases h
  case h_7 => cases h
  case h_9 => cases h
  all_goals
    next hs =>
    obtain rfl := eq_ofNat_of_toNat_eq hs
    exact hasWord_of_mop ⟨rfl, rfl⟩ h

/-- CLASS 0x2 (R76). -/
theorem decodeWrr_hasWord {s : BitVec 4} {d : Byte} {i : Instr} (h : decodedInstr (decodeWrr s d) = some i) :
    HasWord i (mopWord 2#4 s d) := by
  unfold decodeWrr at h
  split at h
  case h_1 | h_6 | h_7 | h_9 => cases h
  all_goals
    next hs =>
    obtain rfl := eq_ofNat_of_toNat_eq hs
    exact decodeWithRegister_hasWord (fun _ => ⟨rfl, rfl⟩) h

/-- CLASS 0x3 (R76). -/
theorem decodeRd_hasWord {s : BitVec 4} {d : Byte} {i : Instr} (h : decodedInstr (decodeRd s d) = some i) :
    HasWord i (mopWord 3#4 s d) := by
  unfold decodeRd at h
  split at h
  case h_9 => cases h
  all_goals
    next hs =>
    obtain rfl := eq_ofNat_of_toNat_eq hs
    exact decodeWithRegister_hasWord (fun _ => ⟨rfl, rfl⟩) h

/-- CLASS 0x4 (R82): ENCOUT has a register, the other actions have none. -/
theorem decodeAct_hasWord {s : BitVec 4} {d : Byte} {i : Instr} (h : decodedInstr (decodeAct s d) = some i) :
    HasWord i (mopWord 4#4 s d) := by
  unfold decodeAct at h
  split at h
  case h_3 hs =>
    obtain rfl : s = 2#4 := BitVec.eq_of_toNat_eq hs
    exact decodeWithRegister_hasWord (fun _ => ⟨rfl, rfl⟩) h
  case h_10 => cases h
  all_goals
    next hs =>
    obtain rfl := eq_ofNat_of_toNat_eq hs
    exact decodePlainAction_hasWord ⟨rfl, rfl⟩ h

/-- CLASS 0x8 (R84). -/
theorem decodeEvt_hasWord {s : BitVec 4} {d : Byte} {i : Instr} (h : decodedInstr (decodeEvt s d) = some i) :
    HasWord i (mopWord 8#4 s d) := by
  unfold decodeEvt at h
  split at h
  next hd =>
    subst hd
    split at h
    case h_6 => cases h
    all_goals
      next hs =>
      obtain rfl := eq_ofNat_of_toNat_eq hs
      exact hasWord_of_event ⟨rfl, rfl⟩ h
  next => cases h

/-- R87: the instruction read from a word is well-formed and has that word. -/
theorem decode_hasWord {w : Word} {i : Instr} (h : decodedInstr (decode w) = some i) : HasWord i w := by
  have hw := mopWord_fields w
  unfold decode at h
  split at h
  case h_1 =>
    split at h
    next hzero => exact hasWord_of_mop (hzero ▸ ⟨rfl, rfl⟩) h
    next => cases h
  case h_2 hc => rw [eq_ofNat_of_toNat_eq hc] at hw; exact hw ▸ decodeWr_hasWord h
  case h_3 hc => rw [eq_ofNat_of_toNat_eq hc] at hw; exact hw ▸ decodeWrr_hasWord h
  case h_4 hc => rw [eq_ofNat_of_toNat_eq hc] at hw; exact hw ▸ decodeRd_hasWord h
  case h_5 hc => rw [eq_ofNat_of_toNat_eq hc] at hw; exact hw ▸ decodeAct_hasWord h
  case h_6 hc => rw [eq_ofNat_of_toNat_eq hc] at hw; exact hw ▸ decodeEvt_hasWord h
  case h_7 => cases h

/-- Settles O2: the decoder's branch fixes CLASS and SEL, and the operand it answers fixes DATA. -/
theorem decodedWordEncodesBack : Obligations.DecodedWordEncodesBack := by
  unfold Obligations.DecodedWordEncodesBack
  exact fun _ _ => decode_hasWord

/-- Settles O4. -/
theorem wordsOfEachFamilyDecode : Obligations.WordsOfEachFamilyDecode := by
  unfold Obligations.WordsOfEachFamilyDecode
  decide

/-! ### The words with no instruction (R86) -/

/-- R73: DATA names a working register exactly if DATA[7:1] = 0. -/
theorem decodeWithRegister_eq_none_iff (f : WReg → Instr) (c : Reserved) (d : Byte) :
    decodedInstr (decodeWithRegister f c d) = none ↔ d.toNat / 2 ≠ 0 := by
  have hoperand : ∀ d : Byte, registerOperand d = none ↔ d.toNat / 2 ≠ 0 := by decide
  rw [← hoperand, decodeWithRegister]
  split <;> simp_all [decodedInstr]

/-- R86, condition 10. -/
theorem decodePlainAction_eq_none_iff (i : Instr) (d : Byte) :
    decodedInstr (decodePlainAction i d) = none ↔ d.toNat ≠ 0 := by
  have hzero : d = 0#8 ↔ d.toNat = 0 := BitVec.toNat_inj.symm
  rw [ne_eq, ← hzero, decodePlainAction]
  split <;> simp_all [decodedInstr]

/-- R86, conditions 3 to 6. -/
theorem decodeWr_eq_none_iff (s : BitVec 4) (d : Byte) :
    decodedInstr (decodeWr s d) = none ↔
      8 ≤ s.toNat ∨ (s.toNat = 0 ∧ d.toNat ≠ 0 ∧ d.toNat ≠ 1 ∧ d.toNat ≠ 2 ∧ d.toNat ≠ 4) ∨
        (s.toNat = 5 ∧ d.toNat / 8 ≠ 0) ∨ s.toNat = 6 := by
  have hicr : d.extractLsb' 3 5 = 0#5 ↔ d.toNat / 8 = 0 := by rw [icrHighBits_eq_zero_iff]; omega
  unfold decodeWr
  split
  case h_1 hs => split <;> simp_all [decodedInstr]
  case h_6 hs => split <;> simp_all [decodedInstr]
  case h_9 => simp only [decodedInstr, true_iff, imp_false] at *; omega
  all_goals simp_all [decodedInstr]

/-- R86, conditions 3, 7 and 8. -/
theorem decodeWrr_eq_none_iff (s : BitVec 4) (d : Byte) :
    decodedInstr (decodeWrr s d) = none ↔
      8 ≤ s.toNat ∨ (s.toNat = 0 ∨ s.toNat = 5 ∨ s.toNat = 6) ∨ d.toNat / 2 ≠ 0 := by
  unfold decodeWrr
  split
  case h_1 | h_6 | h_7 | h_9 => simp only [decodedInstr, true_iff, imp_false] at *; omega
  all_goals rw [decodeWithRegister_eq_none_iff]; omega

/-- R86, conditions 3 and 8. -/
theorem decodeRd_eq_none_iff (s : BitVec 4) (d : Byte) :
    decodedInstr (decodeRd s d) = none ↔ 8 ≤ s.toNat ∨ d.toNat / 2 ≠ 0 := by
  unfold decodeRd
  split
  case h_9 => simp only [decodedInstr, true_iff, imp_false] at *; omega
  all_goals rw [decodeWithRegister_eq_none_iff]; omega

/-- R86, conditions 9 to 11. -/
theorem decodeAct_eq_none_iff (s : BitVec 4) (d : Byte) :
    decodedInstr (decodeAct s d) = none ↔
      9 ≤ s.toNat ∨ (s.toNat ≠ 2 ∧ d.toNat ≠ 0) ∨ (s.toNat = 2 ∧ d.toNat / 2 ≠ 0) := by
  unfold decodeAct
  split
  case h_3 => rw [decodeWithRegister_eq_none_iff]; omega
  case h_10 => simp only [decodedInstr, true_iff, imp_false] at *; omega
  all_goals rw [decodePlainAction_eq_none_iff]; omega

/-- R86, condition 12. -/
theorem decodeEvt_eq_none_iff (s : BitVec 4) (d : Byte) :
    decodedInstr (decodeEvt s d) = none ↔ 5 ≤ s.toNat ∨ d.toNat ≠ 0 := by
  have hzero : d = 0#8 ↔ d.toNat = 0 := BitVec.toNat_inj.symm
  unfold decodeEvt
  split
  case isTrue hd =>
    rw [hzero] at hd
    split
    case h_6 => simp only [decodedInstr, true_iff, imp_false] at *; omega
    all_goals simp only [decodedInstr, reduceCtorEq, false_iff]; omega
  case isFalse hd =>
    rw [hzero] at hd
    simp only [decodedInstr, true_iff]
    omega

/-- R86: a word has no instruction exactly if it meets one of the twelve conditions. -/
theorem decode_eq_none_iff (w : Word) : decodedInstr (decode w) = none ↔ reservedByRule w := by
  obtain ⟨hcls, hsel, hdata⟩ := toNat_fields w
  unfold decode reservedByRule
  rw [hcls]
  split
  case h_1 hc => split <;> simp_all [decodedInstr]
  case h_2 hc => rw [decodeWr_eq_none_iff, hsel, hdata, hc]; simp
  case h_3 hc => rw [decodeWrr_eq_none_iff, hsel, hdata, hc]; simp
  case h_4 hc => rw [decodeRd_eq_none_iff, hsel, hdata, hc]; simp
  case h_5 hc => rw [decodeAct_eq_none_iff, hsel, hdata, hc]; simp
  case h_6 hc => rw [decodeEvt_eq_none_iff, hsel, hdata, hc]; simp
  case h_7 =>
    have hno : 5 ≤ cls w ∧ cls w ≤ 7 ∨ 9 ≤ cls w := by simp only [imp_false] at *; omega
    simp [decodedInstr, hno]

end Sys2Proof.Machine
end

section
/-! The SEQ step by what it fetches (R162, R202): in a machine that has not stopped and has no request, the end of the
program, a MOP, or a word that is refused. -/

namespace Sys2Proof.Machine

open Sys2Proof.Claims

theorem fetchWord_eq_fetched (s : State) : fetchWord s = fetched s := by
  cases h : s.ctx <;> simp [fetchWord, runningProgram, upc, fetched, h]

/-- R162: with nothing to stop or interrupt it, SEQ fetches. -/
theorem seqStep_of_fetched {s : State} {w : Word} (hfault : s.fault = none) (hrefused : s.refused = false)
    (hrequest : ¬ request s) (hw : fetched s = some w) : seqStep s = runWord w s := by
  rw [← irq_eq_true_iff_request] at hrequest
  rw [← fetchWord_eq_fetched] at hw
  simp [seqStep, hfault, hrefused, runSequencer, hrequest, hw]

/-- R162: past the end of the program there is no word. -/
theorem seqStep_of_fetched_none {s : State} (hfault : s.fault = none) (hrefused : s.refused = false)
    (hrequest : ¬ request s) (hw : fetched s = none) : seqStep s = .next (runOffEnd s) := by
  rw [← irq_eq_true_iff_request] at hrequest
  rw [← fetchWord_eq_fetched] at hw
  simp [seqStep, hfault, hrefused, runSequencer, hrequest, hw]

theorem runWord_of_mop {w : Word} {i : Instr} (h : decode w = .mop i) (s : State) : runWord w s = exec i s := by
  simp only [runWord, h]

/-- R202: a word that is no MOP is refused. -/
theorem runWord_of_not_mop {w : Word} (h : ∀ i, decode w ≠ .mop i) (s : State) : runWord w s = .next (refuse s) := by
  unfold runWord
  split
  next i hi => exact absurd hi (h i)
  next => rfl
  next => rfl

/-- R86, R73: a reserved word and a word of CLASS 0x8 are no MOPs. -/
theorem not_mop_of_reserved_or_event {w : Word} (h : reservedByRule w ∨ cls w = 8) (i : Instr) : decode w ≠ .mop i := by
  intro hmop
  obtain hreserved | hcls := h
  · rw [← decode_eq_none_iff, hmop] at hreserved
    cases hreserved
  · rw [decode, (toNat_fields w).1, hcls] at hmop
    simp only [decodeEvt] at hmop
    split at hmop
    · split at hmop <;> cases hmop
    · cases hmop

/-- Settles O3: the conditions by `decode_eq_none_iff`, the refusal by what `runWord` does with no MOP. -/
theorem reservedWordsAreRefused : Obligations.ReservedWordsAreRefused := by
  unfold Obligations.ReservedWordsAreRefused
  refine ⟨decode_eq_none_iff, fun s u w hturn hfault hrefused hrequest hw hbad => ⟨?_, fun v v' hv hturn' t => ?_⟩⟩
  · rw [step_of_seqTurn hturn, seqStep_of_fetched hfault hrefused hrequest hw,
      runWord_of_not_mop (not_mop_of_reserved_or_event hbad), refuse]
  · rw [step_of_seqTurn hturn']
    exact seqStep_ne_next_of_stopped (by rw [stopped_of_seqTurn hturn', stopped_iff]; exact .inr hv) t

/-- Settles O33. -/
theorem stepRunsTheDecodedMop : Obligations.StepRunsTheDecodedMop := by
  unfold Obligations.StepRunsTheDecodedMop
  intro s u w i hturn hfault hrefused hrequest hw hmop
  rw [step_of_seqTurn hturn, seqStep_of_fetched hfault hrefused hrequest hw, runWord_of_mop hmop]

/-- Settles O34. -/
theorem stepDeliversTheEvent : Obligations.StepDeliversTheEvent := by
  unfold Obligations.StepDeliversTheEvent
  intro s u e hturns hu
  rw [step_env_turn hturns, ← hu]

/-- Settles O36: there is no word to fetch, and `runOffEnd` records none. -/
theorem fetchPastTheEndFaults : Obligations.FetchPastTheEndFaults := by
  unfold Obligations.FetchPastTheEndFaults
  intro s u hturn hfault hrefused hrequest hend
  have hw : fetched u = none := by
    unfold fetched
    split at hend <;> simp_all
  rw [step_of_seqTurn hturn, seqStep_of_fetched_none hfault hrefused hrequest hw, runOffEnd, faulted_eq_withFault]

end Sys2Proof.Machine
end

section
/-! What each instruction leaves alone (R21 to R36): the writers of every element of the state. An instruction that
faults writes FAULT alone and a hold nothing, so each frame is one about the instruction's own effect (`exec_cases`).
-/

namespace Sys2Proof.Machine

open Sys2Proof.Claims

/-- What holds of the state itself, of every faulted state and of the instruction's own effect holds of what it
answers. -/
theorem exec_rec {i : Instr} {s t : State} {P : State → Prop} (h : exec i s = .next t) (hhold : P s)
    (hfault : ∀ k w r, P (faulted k w r s)) (hown : OwnEffect i s t → P t) : P t := by
  obtain ⟨k, r, rfl, -⟩ | rfl | h := exec_cases h
  · exact hfault k _ r
  · exact hhold
  · exact hown h

/-! ### What no instruction writes -/

/-- The elements that no instruction writes, RESET included: the parameters, the programs and the turns (R61, R17),
and REFUSED (R38). -/
structure SameFixed (s t : State) : Prop where
  params : t.params = s.params
  mainProgram : t.mainProgram = s.mainProgram
  handlerProgram : t.handlerProgram = s.handlerProgram
  turns : t.turns = s.turns
  refused : t.refused = s.refused

/-- The parts of an effect that hold for every instruction: the elements above, and FAULT. -/
theorem OwnEffect.sameFixed {i : Instr} {s t : State} (h : OwnEffect i s t) : SameFixed s t ∧ t.fault = s.fault := by
  cases i with
  | idle => exact h.elim
  | flipt => obtain ⟨-, rfl | rfl⟩ := h <;> exact ⟨⟨rfl, rfl, rfl, rfl, rfl⟩, rfl⟩
  | wrIcr | iRestore | reti | evCommit => obtain ⟨-, rfl⟩ := h; exact ⟨⟨rfl, rfl, rfl, rfl, rfl⟩, rfl⟩
  | wrrNvdat | wrrNvadrl | wrrNvadrh | wrrDisp | wrrDir | rdNvcr | rdNvdat | rdNvadrl | rdNvadrh | rdDisp | rdIcr
  | rdStat | rdDir | inc | encout | segEncode | segOutpat =>
    obtain ⟨v, rfl⟩ := h; exact ⟨⟨rfl, rfl, rfl, rfl, rfl⟩, rfl⟩
  | nop | wrNvcrClr | wrNvcrRe | wrNvcrWs | wrNvcrWe | wrNvdat | wrNvadrl | wrNvadrh | wrDisp | wrDir | waitrdy | tgls
  | cliSave | evEdge | evPgmset | evPgmclr | evReset => subst h; exact ⟨⟨rfl, rfl, rfl, rfl, rfl⟩, rfl⟩

theorem exec_sameFixed {i : Instr} {s t : State} (h : exec i s = .next t) : SameFixed s t :=
  exec_rec (P := SameFixed s) h ⟨rfl, rfl, rfl, rfl, rfl⟩ (fun _ _ _ => ⟨rfl, rfl, rfl, rfl, rfl⟩)
    fun hown => hown.sameFixed.1

theorem seqStep_sameFixed_or_refuse {s t : State} (h : seqStep s = .next t) : SameFixed s t ∨ t = refuse s := by
  obtain ⟨-, -, ⟨-, rfl⟩ | ⟨-, -, rfl⟩ | ⟨-, w, -, -, rfl⟩ | ⟨-, w, i, -, -, hexec⟩⟩ := seqStep_cases h
  · exact .inl ⟨rfl, rfl, rfl, rfl, rfl⟩
  · exact .inl ⟨rfl, rfl, rfl, rfl, rfl⟩
  · exact .inr rfl
  · exact .inl (exec_sameFixed hexec)

/-- A step that answers a next state is SEQ's or ENV's, on the state with the rest of the turns. -/
theorem step_next_cases {s t : State} (h : step s = .next t) :
    ∃ rest, seqStep { s with turns := rest } = .next t ∨
      ∃ e, exec (eventInstr e) { s with turns := rest } = .next t := by
  obtain ⟨u, -, hu, hseq⟩ | ⟨e, u, -, hu, henv⟩ := step_cases s
  · exact ⟨u.turns, .inl (hu ▸ hseq ▸ h)⟩
  · exact ⟨u.turns, .inr ⟨e, hu ▸ henv ▸ h⟩⟩

/-- Settles O43: neither an instruction nor the sequencer's own part of a step writes them. -/
theorem programsAndParametersAreFixed : Obligations.ProgramsAndParametersAreFixed := by
  unfold Obligations.ProgramsAndParametersAreFixed
  intro s t h
  obtain ⟨rest, hseq | ⟨e, henv⟩⟩ := step_next_cases h
  · obtain hfixed | rfl := seqStep_sameFixed_or_refuse hseq
    · exact ⟨hfixed.params, hfixed.mainProgram, hfixed.handlerProgram⟩
    · exact ⟨rfl, rfl, rfl⟩
  · have hfixed := exec_sameFixed henv
    exact ⟨hfixed.params, hfixed.mainProgram, hfixed.handlerProgram⟩

/-! ### Faults (R201, R203) -/

/-- Settles O46: only the fault of `exec_cases` sets FAULT. -/
theorem faultingMopWritesOnlyFault : Obligations.FaultingMopWritesOnlyFault := by
  unfold Obligations.FaultingMopWritesOnlyFault
  intro i s t h hs ht
  obtain ⟨k, r, rfl, hk, hr⟩ | rfl | hown := exec_cases h
  · exact ⟨k, r, faulted_eq_withFault k _ r s, hk, hr⟩
  · exact absurd hs ht
  · exact absurd (hown.sameFixed.2.trans hs) ht

/-! ### NVM and the controller (R21 to R26) -/

/-- The writers of NVM and of the controller's registers, RESET apart. -/
theorem OwnEffect.controllerRegisters {i : Instr} {s t : State} (hreset : i ≠ .evReset) (h : OwnEffect i s t) :
    ((∀ v, i ≠ .wrNvadrl v ∧ i ≠ .wrNvadrh v) → (∀ r, i ≠ .wrrNvadrl r ∧ i ≠ .wrrNvadrh r) → t.nvadr = s.nvadr) ∧
      ((∀ v, i ≠ .wrNvdat v) → (∀ r, i ≠ .wrrNvdat r) → i ≠ .wrNvcrRe → t.nvdat = s.nvdat) ∧
      (i ≠ .wrNvcrWs → t.ladr = s.ladr ∧ t.ldat = s.ldat) ∧
      (i ≠ .wrNvcrWs → i ≠ .evCommit → t.busy = s.busy) ∧
      (i ≠ .evPgmset → i ≠ .evPgmclr → t.pgmBusy = s.pgmBusy) ∧
      (i ≠ .evCommit → t.nvm = s.nvm) := by
  cases i with
  | evReset => exact absurd rfl hreset
  | idle => exact h.elim
  | flipt => obtain ⟨-, rfl | rfl⟩ := h <;> simp
  | wrIcr | iRestore | reti | evCommit => obtain ⟨-, rfl⟩ := h; simp
  | wrrNvdat | wrrNvadrl | wrrNvadrh | wrrDisp | wrrDir | rdNvcr | rdNvdat | rdNvadrl | rdNvadrh | rdDisp | rdIcr
  | rdStat | rdDir | inc | encout | segEncode | segOutpat => obtain ⟨v, rfl⟩ := h; simp
  | nop | wrNvcrClr | wrNvcrRe | wrNvcrWs | wrNvcrWe | wrNvdat | wrNvadrl | wrNvadrh | wrDisp | wrDir | waitrdy | tgls
  | cliSave | evEdge | evPgmset | evPgmclr => subst h; simp

theorem exec_keeps_nvm {i : Instr} {s t : State} (hcommit : i ≠ .evCommit) (hreset : i ≠ .evReset)
    (h : exec i s = .next t) : t.nvm = s.nvm :=
  exec_rec (P := fun t => t.nvm = s.nvm) h rfl (fun _ _ _ => rfl) fun hown => by
    obtain ⟨-, -, -, -, -, hnvm⟩ := hown.controllerRegisters hreset
    exact hnvm hcommit

/-- R131: COMMIT with BUSY = 1. -/
theorem exec_evCommit_of_busy {s : State} (h : s.busy = true) :
    exec .evCommit s = .next { s with nvm := memWrite s.nvm (latchAddr s) s.ldat, busy := false } := by
  change execEvCommit s = _
  rw [execEvCommit, if_pos h, toNat_commitAddr]

/-- R131: COMMIT with BUSY = 0 is not enabled. -/
theorem exec_evCommit_of_not_busy {s : State} (h : s.busy = false) : exec .evCommit s = .next s := by
  change execEvCommit s = _
  simp [execEvCommit, h]

/-- Settles O25: the new NVM is one `memWrite`. -/
theorem commitWritesTheLatchedByte : Obligations.CommitWritesTheLatchedByte := by
  unfold Obligations.CommitWritesTheLatchedByte
  refine ⟨by decide, rfl, fun s hbusy => ⟨_, exec_evCommit_of_busy hbusy, memRead_memWrite_self _ _ _, fun a ha => ?_⟩⟩
  exact memRead_memWrite_other _ _ _ _ ha

/-- Settles O26. -/
theorem disabledCommitChangesNothing : Obligations.DisabledCommitChangesNothing := by
  unfold Obligations.DisabledCommitChangesNothing
  exact fun _ => exec_evCommit_of_not_busy

/-- Settles O38: the two writers of NVM write at LADR, and only while BUSY = 1. -/
theorem onlyCommitAndResetWriteNvm : Obligations.OnlyCommitAndResetWriteNvm := by
  unfold Obligations.OnlyCommitAndResetWriteNvm
  intro i s t h
  refine ⟨fun hcommit hreset => exec_keeps_nvm hcommit hreset h, ?_⟩
  by_cases hcommit : i = .evCommit
  · subst hcommit
    cases hbusy : s.busy with
    | false =>
      obtain rfl := Host.Outcome.next.inj ((exec_evCommit_of_not_busy hbusy).symm.trans h)
      exact ⟨fun _ => rfl, fun _ _ => rfl⟩
    | true =>
      obtain rfl := Host.Outcome.next.inj ((exec_evCommit_of_busy hbusy).symm.trans h)
      exact ⟨nofun, fun a ha => memRead_memWrite_other _ _ _ _ ha⟩
  · by_cases hreset : i = .evReset
    · subst hreset
      obtain rfl := Host.Outcome.next.inj ((exec_evReset s).symm.trans h)
      exact ⟨cutCommit_of_not_busy, fun a => memRead_cutCommit_other s⟩
    · have hnvm := exec_keeps_nvm hcommit hreset h
      exact ⟨fun _ => hnvm, fun a _ => by rw [hnvm]⟩

/-- Settles O39: the writers of the controller's registers among the instructions' own effects. -/
theorem writersOfTheControllerRegisters : Obligations.WritersOfTheControllerRegisters := by
  unfold Obligations.WritersOfTheControllerRegisters
  intro i s t h hreset
  obtain ⟨k, r, rfl, -⟩ | rfl | hown := exec_cases h
  · simp
  · simp
  · obtain ⟨hnvadr, hnvdat, hlatch, hbusy, hpgm, -⟩ := hown.controllerRegisters hreset
    exact ⟨hnvadr, hnvdat, hlatch, hbusy, hpgm⟩

/-! ### The counter's own registers (R28 to R36) -/

/-- The writers of S, DISP, DIR and the working registers, RESET apart. -/
theorem OwnEffect.csmDatapath {i : Instr} {s t : State} (hreset : i ≠ .evReset) (h : OwnEffect i s t) :
    (i ≠ .tgls → t.sLine = s.sLine) ∧
      ((∀ v, i ≠ .wrDisp v) → (∀ r, i ≠ .wrrDisp r ∧ i ≠ .encout r) → t.disp = s.disp) ∧
      ((∀ v, i ≠ .wrDir v) → (∀ r, i ≠ .wrrDir r) → t.dir = s.dir) ∧
      (∀ r, i ∉ busReads r → (i = .inc → r ≠ .nxt) → readWorking r t = readWorking r s) := by
  cases i with
  | evReset => exact absurd rfl hreset
  | idle => exact h.elim
  | flipt => obtain ⟨-, rfl | rfl⟩ := h <;> simp [readWorking]
  | wrIcr | iRestore | reti | evCommit => obtain ⟨-, rfl⟩ := h; simp [readWorking]
  | rdNvcr q | rdNvdat q | rdNvadrl q | rdNvadrh q | rdDisp q | rdIcr q | rdStat q | rdDir q =>
    obtain ⟨v, rfl⟩ := h
    refine ⟨by simp, by simp, by simp, fun r hr _ => ?_⟩
    exact readWorking_writeWorking_other v s fun hrq => hr (by simp [busReads, hrq])
  | inc =>
    obtain ⟨v, rfl⟩ := h
    exact ⟨by simp, by simp, by simp, fun r _ hr => readWorking_writeWorking_other v s (hr rfl)⟩
  | wrrNvdat | wrrNvadrl | wrrNvadrh | wrrDisp | wrrDir | encout | segEncode | segOutpat =>
    obtain ⟨v, rfl⟩ := h; simp [readWorking]
  | nop | wrNvcrClr | wrNvcrRe | wrNvcrWs | wrNvcrWe | wrNvdat | wrNvadrl | wrNvadrh | wrDisp | wrDir | waitrdy | tgls
  | cliSave | evEdge | evPgmset | evPgmclr => subst h; simp [readWorking]

/-- Settles O40: T by the frame of FLIPT, the rest by each instruction's own effect. -/
theorem writersOfTheCsmDatapath : Obligations.WritersOfTheCsmDatapath := by
  unfold Obligations.WritersOfTheCsmDatapath
  intro i s t h hreset
  refine ⟨fun hflipt => exec_keeps_tFlag hflipt hreset h, ?_⟩
  simp only [working_eq_readWorking]
  obtain ⟨k, r, rfl, -⟩ | rfl | hown := exec_cases h
  · simp [readWorking]
  · simp
  · obtain ⟨hsLine, hdisp, hdir, hworking⟩ := hown.csmDatapath hreset
    refine ⟨hsLine, hdisp, hdir, fun r hr => hworking r ?_ ?_⟩
    · simp only [busReads, List.mem_cons, List.not_mem_nil, or_false]
      tauto
    · tauto

/-- The writers of the interrupt's flags, CTX and the counters, RESET apart. -/
theorem OwnEffect.interruptState {i : Instr} {s t : State} (hreset : i ≠ .evReset) (h : OwnEffect i s t) :
    ((∀ v, i ≠ .wrIcr v) → i ≠ .flipt → i ≠ .reti → i ≠ .cliSave → i ≠ .iRestore → t.iFlag = s.iFlag) ∧
      (i ≠ .cliSave → t.savedI = s.savedI) ∧
      ((∀ v, i ≠ .wrIcr v) → t.grpEn = s.grpEn ∧ t.pinEn = s.pinEn) ∧
      (i ≠ .evEdge → t.pend = s.pend ∧ t.inLine = s.inLine) ∧
      (s.pend = true → t.pend = true) ∧
      (i ≠ .flipt → i ≠ .reti → t.ctx = s.ctx) ∧
      (t.ctx = .isr → t.mpc = s.mpc) ∧ (s.ctx = .main → t.hpc = s.hpc) := by
  cases i with
  | evReset => exact absurd rfl hreset
  | idle => exact h.elim
  | flipt => obtain ⟨-, rfl | rfl⟩ := h <;> simp +contextual
  | wrIcr | iRestore | reti | evCommit => obtain ⟨-, rfl⟩ := h; simp +contextual
  | wrrNvdat | wrrNvadrl | wrrNvadrh | wrrDisp | wrrDir | rdNvcr | rdNvdat | rdNvadrl | rdNvadrh | rdDisp | rdIcr
  | rdStat | rdDir | inc | encout | segEncode | segOutpat => obtain ⟨v, rfl⟩ := h; simp +contextual
  | nop | wrNvcrClr | wrNvcrRe | wrNvcrWs | wrNvcrWe | wrNvdat | wrNvadrl | wrNvadrh | wrDisp | wrDir | waitrdy | tgls
  | cliSave | evEdge | evPgmset | evPgmclr => subst h; simp +contextual

/-- Settles O42: likewise for I, the enables, the request and the counters. -/
theorem writersOfTheInterruptState : Obligations.WritersOfTheInterruptState := by
  unfold Obligations.WritersOfTheInterruptState
  intro i s t h hreset
  obtain ⟨k, r, rfl, -⟩ | rfl | hown := exec_cases h
  · simp
  · simp
  · exact hown.interruptState hreset

end Sys2Proof.Machine
end

section
/-! Holds, and that every instruction answers a next state (R15, R148, R173; log entries 6 and 7). -/

namespace Sys2Proof.Machine

open Sys2Proof.Claims

/-! ### Holds -/

/-- R148: WAITRDY holds while busy. -/
theorem exec_waitrdy_of_inFlight {s : State} (h : inFlight s) : exec .waitrdy s = .next s := by
  change execWaitrdy s = _
  rw [execWaitrdy, if_pos ((nvmcBusy_eq_true_iff s).2 h)]

theorem exec_waitrdy_of_ready {s : State} (h : ready s) : exec .waitrdy s = .next (ends s) := by
  have hbusy : ¬ nvmcBusy s = true := by rw [(nvmcBusy_eq_false_iff s).2 h]; decide
  change execWaitrdy s = _
  rw [execWaitrdy, if_neg hbusy, retire_eq_ends]

/-- R131, R149, R150, R160: the two events that cannot end a hold. -/
theorem not_ready_of_edge_or_pgmset {e : Event} {s t : State} (he : e = .edge ∨ e = .pgmset) (hs : inFlight s)
    (h : exec (eventInstr e) s = .next t) : ¬ ready t := by
  obtain rfl | rfl := he
  · obtain rfl := Host.Outcome.next.inj ((exec_evEdge s).symm.trans h)
    rintro ⟨hbusy, hpgm⟩
    simp_all [inFlight]
  · obtain rfl : { s with pgmBusy := true } = t := Host.Outcome.next.inj h
    rintro ⟨-, hpgm⟩
    cases hpgm

/-- Settles O17. -/
theorem waitrdyHoldsWhileBusy : Obligations.WaitrdyHoldsWhileBusy := by
  unfold Obligations.WaitrdyHoldsWhileBusy
  refine ⟨rfl, fun s => ⟨exec_waitrdy_of_inFlight, exec_waitrdy_of_ready, fun e t hs h ht => ?_⟩⟩
  cases e with
  | commit => exact .inl rfl
  | pgmclr => exact .inr (.inl rfl)
  | reset => exact .inr (.inr rfl)
  | edge => exact absurd ht (not_ready_of_edge_or_pgmset (.inl rfl) hs h)
  | pgmset => exact absurd ht (not_ready_of_edge_or_pgmset (.inr rfl) hs h)

/-- R173: IDLE holds in MAIN context. -/
theorem exec_idle_main {s : State} (hc : s.ctx = .main) : exec .idle s = .next s := by
  change execIdle s = _
  simp [execIdle, hc]

theorem exec_idle_isr {s : State} (hc : s.ctx = .isr) :
    exec .idle s = .next (withFault .context (encode .idle) none s) := by
  change execIdle s = _
  rw [execIdle, if_pos hc, raise_eq, faulted_eq_withFault]

/-- Settles O23. -/
theorem idleHoldsInMain : Obligations.IdleHoldsInMain := by
  unfold Obligations.IdleHoldsInMain
  exact ⟨rfl, fun s => ⟨exec_idle_main, exec_idle_isr⟩⟩

/-! ### The combinational functions (R101, R105) -/

/-- Settles O29: above 9 the glyph is digit 0's by ENCODE's clamp. -/
theorem encodeClampsToDigitZero : Obligations.EncodeClampsToDigitZero := by
  unfold Obligations.EncodeClampsToDigitZero
  intro d s
  have hexec : exec (.segEncode d) s = .next { s with segOut := encodeDigit s.params d } := rfl
  refine ⟨by rw [hexec, encodeDigit_eq_glyph], fun hd => ?_⟩
  rw [hexec, encodeDigit_of_gt s.params hd, encodeDigit_eq_glyph]

/-- Settles O30. -/
theorem outpatComplements : Obligations.OutpatComplements := by
  unfold Obligations.OutpatComplements
  intro g s
  have hexec : exec (.segOutpat g) s = .next { s with segOut := outPattern g } := rfl
  exact ⟨by rw [hexec, outPattern_eq_sub], outPattern_involutive g⟩

/-! ### Totality -/

theorem nvmcWrite_total (i : Instr) (f : State → State) (s : State) : ∃ t, nvmcWrite i f s = .next t := by
  unfold nvmcWrite
  split <;> exact ⟨_, rfl⟩

theorem withWorking_total {f : Byte → Answer} (hf : ∀ v, ∃ t, f v = .next t) (i : Instr) (r : WReg) (s : State) :
    ∃ t, withWorking i r f s = .next t := by
  unfold withWorking
  split
  next v _ => exact hf v
  next => exact ⟨_, rfl⟩

theorem ite_total {c : Prop} [Decidable c] {a b : Answer} (ha : ∃ t, a = .next t) (hb : ∃ t, b = .next t) :
    ∃ t, (if c then a else b) = .next t := by
  split
  · exact ha
  · exact hb

/-- Every arm ends in a next state: a check answers a fault's, a hold the state's own. -/
theorem exec_total (i : Instr) (s : State) : ∃ t, exec i s = .next t := by
  cases i with
  | nop | wrDisp | wrDir | rdNvcr | rdNvdat | rdNvadrl | rdNvadrh | rdDisp | rdIcr | rdStat | rdDir | tgls | cliSave
  | evEdge | evPgmset | evPgmclr | evReset | segEncode | segOutpat => exact ⟨_, rfl⟩
  | wrNvcrClr => exact nvmcWrite_total .wrNvcrClr (fun t => t) s
  | wrNvdat v => exact nvmcWrite_total (.wrNvdat v) (fun t => { t with nvdat := v }) s
  | wrNvcrRe | wrNvcrWs | wrNvadrl | wrNvadrh => exact nvmcWrite_total _ _ _
  | wrNvcrWe | wrIcr | waitrdy | iRestore | reti | idle | evCommit => exact ite_total ⟨_, rfl⟩ ⟨_, rfl⟩
  | flipt => exact ite_total ⟨_, rfl⟩ (ite_total ⟨_, rfl⟩ ⟨_, rfl⟩)
  | wrrNvdat | wrrNvadrl | wrrNvadrh => exact withWorking_total (fun _ => nvmcWrite_total _ _ _) _ _ _
  | wrrDisp | wrrDir | inc | encout => exact withWorking_total (fun _ => ⟨_, rfl⟩) _ _ _

/-- Settles O47. -/
theorem everyInstructionAnswersANextState : Obligations.EveryInstructionAnswersANextState := by
  unfold Obligations.EveryInstructionAnswersANextState
  intro i s
  obtain ⟨t, h⟩ := exec_total i s
  exact ⟨t, h, (exec_sameFixed h).refused⟩

end Sys2Proof.Machine
end

section
/-! WE_ARMED lasts one step (R128): a completed MOP clears it unless it is the write enable. -/

namespace Sys2Proof.Machine

open Sys2Proof.Claims

/-- No word decodes to an event, or to a combinational function, as a MOP (R73, R85). -/
theorem not_mop_of_event {w : Word} (e : Event) : decode w ≠ .mop (eventInstr e) := by
  intro h
  have hword := (decode_hasWord (w := w) (by rw [h]; rfl)).2
  cases e with
  | edge | commit | pgmset | pgmclr | reset =>
    obtain rfl := Option.some.inj hword
    revert h
    decide

theorem OwnEffect.weArmed_of_mop {i : Instr} {w : Word} {s t : State} (hmop : decode w = .mop i)
    (h : OwnEffect i s t) : t.weArmed = decide (i = .wrNvcrWe) := by
  have hword : encode i = some w := (decode_hasWord (w := w) (by rw [hmop]; rfl)).2
  cases i with
  | segEncode | segOutpat => cases hword
  | evEdge => exact absurd hmop (not_mop_of_event .edge)
  | evCommit => exact absurd hmop (not_mop_of_event .commit)
  | evPgmset => exact absurd hmop (not_mop_of_event .pgmset)
  | evPgmclr => exact absurd hmop (not_mop_of_event .pgmclr)
  | evReset => exact absurd hmop (not_mop_of_event .reset)
  | idle => exact h.elim
  | flipt => obtain ⟨-, rfl | rfl⟩ := h <;> rfl
  | wrIcr | iRestore | reti => obtain ⟨-, rfl⟩ := h; rfl
  | wrrNvdat | wrrNvadrl | wrrNvadrh | wrrDisp | wrrDir | rdNvcr | rdNvdat | rdNvadrl | rdNvadrh | rdDisp | rdIcr
  | rdStat | rdDir | inc | encout => obtain ⟨v, rfl⟩ := h; rfl
  | nop | wrNvcrClr | wrNvcrRe | wrNvcrWs | wrNvcrWe | wrNvdat | wrNvadrl | wrNvadrh | wrDisp | wrDir | waitrdy | tgls
  | cliSave => subst h; rfl

/-- R128: the events but RESET leave WE_ARMED alone. -/
theorem exec_event_weArmed {e : Event} {s t : State} (h : exec (eventInstr e) s = .next t) :
    t.weArmed = if e = .reset then false else s.weArmed := by
  cases e with
  | edge | pgmset | pgmclr | reset =>
    obtain rfl := Host.Outcome.next.inj h
    rfl
  | commit =>
    cases hbusy : s.busy with
    | false =>
      obtain rfl := Host.Outcome.next.inj ((exec_evCommit_of_not_busy hbusy).symm.trans h)
      rfl
    | true =>
      obtain rfl := Host.Outcome.next.inj ((exec_evCommit_of_busy hbusy).symm.trans h)
      rfl

/-- Settles O44. -/
theorem writeEnableLastsOneStep : Obligations.WriteEnableLastsOneStep := by
  unfold Obligations.WriteEnableLastsOneStep
  refine ⟨fun s t i w hmop h hs ht hne => ?_, fun e s t h => exec_event_weArmed h,
    fun s u t hturn hfault hrefused hrequest h => ?_, fun i s t h hs ht => ?_,
    fun s u hturn hfault hrefused hrequest hno => ?_⟩
  · obtain ⟨k, r, rfl, -⟩ | rfl | hown := exec_cases h
    · cases ht
    · exact absurd rfl hne
    · exact hown.weArmed_of_mop hmop
  · rw [step_of_seqTurn hturn, seqStep_of_request hfault hrefused hrequest] at h
    obtain rfl := Host.Outcome.next.inj h
    rfl
  · obtain ⟨k, r, rfl, -⟩ | rfl | hown := exec_cases h
    · rfl
    · rfl
    · exact absurd (hown.sameFixed.2.trans hs) ht
  · rw [step_of_seqTurn hturn]
    cases hw : fetched u with
    | none => exact ⟨_, seqStep_of_fetched_none hfault hrefused hrequest hw, rfl⟩
    | some w =>
      refine ⟨refuse u, ?_, rfl⟩
      rw [seqStep_of_fetched hfault hrefused hrequest hw, runWord_of_not_mop fun i => hno w i hw]

end Sys2Proof.Machine
end

section
/-! What no instruction reads: the turns, and but for RD DIR the contents of DIR (R33, log entry 5). -/

namespace Sys2Proof.Machine

/-- The state with other contents of DIR and other turns. -/
def relabel (d : Byte) (l : List Turn) (s : State) : State := { s with dir := d, turns := l }

/-- `f` reads neither DIR nor the turns: from a relabelled state it answers the same next state, relabelled; and DIR
is still the one of that state where the two states had one DIR. -/
def BlindToLabels (f : State → Answer) : Prop :=
  ∀ (s t : State) (d : Byte) (l : List Turn), f s = .next t →
    ∃ d', f (relabel d l s) = .next (relabel d' l t) ∧ (d = s.dir → d' = t.dir)

/-- A function that leaves both alone. -/
theorem BlindToLabels.of_keeps {g : State → State} (h : ∀ d l s, g (relabel d l s) = relabel d l (g s))
    (hdir : ∀ s, (g s).dir = s.dir) : BlindToLabels fun s => .next (g s) := by
  intro s t d l ht
  obtain rfl := Host.Outcome.next.inj ht
  exact ⟨d, congrArg _ (h d l s), fun hd => hd.trans (hdir s).symm⟩

/-- A function that writes DIR. -/
theorem BlindToLabels.of_writes {g : State → State} (h : ∀ d l s, g (relabel d l s) = relabel (g s).dir l (g s)) :
    BlindToLabels fun s => .next (g s) := by
  intro s t d l ht
  obtain rfl := Host.Outcome.next.inj ht
  exact ⟨(g s).dir, congrArg _ (h d l s), fun _ => rfl⟩

theorem BlindToLabels.ite {c : State → Prop} [DecidablePred c] {f g : State → Answer}
    (hc : ∀ d l s, c (relabel d l s) ↔ c s) (hf : BlindToLabels f) (hg : BlindToLabels g) :
    BlindToLabels fun s => if c s then f s else g s := by
  intro s t d l ht
  by_cases hcs : c s
  · simp only [hcs, (hc d l s).2 hcs, if_true] at ht ⊢
    exact hf s t d l ht
  · have hcs' : ¬ c (relabel d l s) := fun h => hcs ((hc d l s).1 h)
    simp only [hcs, hcs', if_false] at ht ⊢
    exact hg s t d l ht

theorem blindToLabels_raise (k : FaultKind) (i : Instr) (r : Option WReg) : BlindToLabels (raise k i r) :=
  .of_keeps (fun _ _ _ => rfl) fun _ => rfl

theorem blindToLabels_nvmcWrite (i : Instr) {f : State → State} (h : ∀ d l s, f (relabel d l s) = relabel d l (f s))
    (hdir : ∀ s, (f s).dir = s.dir) : BlindToLabels (nvmcWrite i f) :=
  .ite (c := fun s => nvmcBusy s = true) (fun _ _ _ => Iff.rfl) (blindToLabels_raise _ _ _)
    (.of_keeps (fun d l s => by rw [h]; rfl) hdir)

theorem blindToLabels_withWorking (i : Instr) (r : WReg) {f : Byte → State → Answer} (h : ∀ v, BlindToLabels (f v)) :
    BlindToLabels fun s => withWorking i r (f · s) s := by
  intro s t d l ht
  have hread : readWorking r (relabel d l s) = readWorking r s := by cases r <;> rfl
  simp only [withWorking, hread] at ht ⊢
  split at ht
  next v _ => exact h v s t d l ht
  next => exact blindToLabels_raise _ _ _ s t d l ht

/-- R33: RD DIR apart, no instruction reads DIR or the turns. -/
theorem exec_blindToLabels {i : Instr} (hi : ∀ r, i ≠ .rdDir r) : BlindToLabels (exec i) := by
  cases i with
  | rdDir r => exact absurd rfl (hi r)
  | wrDir | evReset => exact .of_writes fun _ _ _ => rfl
  | nop | wrDisp | rdNvcr | rdNvdat | rdNvadrl | rdNvadrh | rdDisp | rdIcr | rdStat | tgls | cliSave
  | evEdge | evPgmset | evPgmclr | segEncode | segOutpat => exact .of_keeps (fun _ _ _ => rfl) fun _ => rfl
  | wrNvcrClr | wrNvcrRe | wrNvcrWs | wrNvdat | wrNvadrl | wrNvadrh =>
    exact blindToLabels_nvmcWrite _ (fun _ _ _ => rfl) fun _ => rfl
  | wrNvcrWe =>
    exact .ite (c := fun s => nvmcBusy s = true) (fun _ _ _ => Iff.rfl) (blindToLabels_raise _ _ _)
      (.of_keeps (fun _ _ _ => rfl) fun _ => rfl)
  | wrIcr v =>
    exact .ite (c := fun s => s.ctx = .isr ∧ v.getLsbD 2 = true) (fun _ _ _ => Iff.rfl) (blindToLabels_raise _ _ _)
      (.of_keeps (fun _ _ _ => rfl) fun _ => rfl)
  | waitrdy =>
    exact .ite (c := fun s => nvmcBusy s = true) (fun _ _ _ => Iff.rfl)
      (.of_keeps (g := id) (fun _ _ _ => rfl) fun _ => rfl) (.of_keeps (fun _ _ _ => rfl) fun _ => rfl)
  | iRestore =>
    exact .ite (c := fun s => s.ctx = .isr ∧ s.savedI = true) (fun _ _ _ => Iff.rfl) (blindToLabels_raise _ _ _)
      (.of_keeps (fun _ _ _ => rfl) fun _ => rfl)
  | reti =>
    exact .ite (c := fun s => s.ctx = .main) (fun _ _ _ => Iff.rfl) (blindToLabels_raise _ _ _)
      (.of_keeps (fun _ _ _ => rfl) fun _ => rfl)
  | idle =>
    exact .ite (c := fun s => s.ctx = .isr) (fun _ _ _ => Iff.rfl) (blindToLabels_raise _ _ _)
      (.of_keeps (g := id) (fun _ _ _ => rfl) fun _ => rfl)
  | evCommit =>
    exact .ite (c := fun s => s.busy = true) (fun _ _ _ => Iff.rfl) (.of_keeps (fun _ _ _ => rfl) fun _ => rfl)
      (.of_keeps (g := id) (fun _ _ _ => rfl) fun _ => rfl)
  | flipt =>
    exact .ite (c := fun s => s.ctx = .main) (fun _ _ _ => Iff.rfl) (blindToLabels_raise _ _ _)
      (.ite (c := fun s => s.tFlag = true) (fun _ _ _ => Iff.rfl) (.of_keeps (fun _ _ _ => rfl) fun _ => rfl)
        (.of_keeps (fun _ _ _ => rfl) fun _ => rfl))
  | wrrNvdat | wrrNvadrl | wrrNvadrh =>
    exact blindToLabels_withWorking _ _ fun _ => blindToLabels_nvmcWrite _ (fun _ _ _ => rfl) fun _ => rfl
  | wrrDir => exact blindToLabels_withWorking _ _ fun _ => .of_writes fun _ _ _ => rfl
  | wrrDisp | inc | encout => exact blindToLabels_withWorking _ _ fun _ => .of_keeps (fun _ _ _ => rfl) fun _ => rfl

/-- Settles O41: the turns stay as they are. -/
theorem dirHasNoEffect : Obligations.DirHasNoEffect := by
  unfold Obligations.DirHasNoEffect
  intro i s t v hi h
  obtain ⟨d, hd, -⟩ := exec_blindToLabels hi s t v s.turns h
  refine ⟨d, hd.trans ?_⟩
  rw [relabel, ← (exec_sameFixed h).turns]

/-- No instruction reads the turns (log entry 5). -/
theorem exec_turns {i : Instr} {s t : State} (l : List Turn) (h : exec i s = .next t) :
    exec i { s with turns := l } = .next { t with turns := l } := by
  by_cases hi : ∀ r, i ≠ .rdDir r
  · obtain ⟨d, hd, hdir⟩ := exec_blindToLabels hi s t s.dir l h
    rw [hdir rfl] at hd
    exact hd
  · obtain ⟨r, rfl⟩ := not_forall_not.1 hi
    obtain rfl := Host.Outcome.next.inj h
    rfl

end Sys2Proof.Machine
end

section
/-! The state's invariant (R21, R22, R25, R208): NVM in canonical form, the address registers within NVM_ADDR_BITS,
and I = 0 throughout ISR context. -/

namespace Sys2Proof.Machine

open Sys2Proof.Claims

theorem nvAddr_lt (s : State) : (nvAddr s).toNat < cells s := narrowAddr_lt s.nvadr

theorem latchAddr_lt (s : State) : latchAddr s < cells s := Nat.mod_lt _ (by unfold cells; positivity)

/-- R233: a cut-off commit leaves the canonical form too. -/
theorem cutCommit_wf {s : State} (h : Memory.wf (cells s) s.nvm = true) : Memory.wf (cells s) (cutCommit s) = true := by
  unfold cutCommit
  split
  · exact memWrite_wf _ _ h (toNat_commitAddr s ▸ latchAddr_lt s)
  · exact h

/-- Where NVM, NVADR, LADR and NVM_ADDR_BITS are as they were, only I in ISR context is left to show. -/
theorem stateOk_of_same {s t : State} (hs : StateOk s) (hparams : t.params = s.params) (hnvm : t.nvm = s.nvm)
    (hnvadr : t.nvadr = s.nvadr) (hladr : t.ladr = s.ladr) (hI : t.ctx = .isr → t.iFlag = false) : StateOk t := by
  obtain ⟨hwf, hadr, hlad, -⟩ := hs
  have hcells : cells t = cells s := by rw [cells, cells, hparams]
  exact ⟨by rwa [hcells, hnvm], by rwa [hcells, hnvadr], by rwa [hcells, hladr], hI⟩

theorem iFlag_of_stateOk {s : State} (hs : StateOk s) : s.ctx = .isr → s.iFlag = false := by
  obtain ⟨-, -, -, hIsr⟩ := hs
  exact hIsr

/-- Each writer of NVM writes below NVM_SIZE, each writer of an address register narrows, and in ISR context each
writer of I that does not return from it leaves I = 0. -/
theorem OwnEffect.stateOk {i : Instr} {s t : State} (hs : StateOk s) (h : OwnEffect i s t) : StateOk t := by
  have hIsr := iFlag_of_stateOk hs
  cases i with
  | idle => exact h.elim
  | flipt =>
    obtain ⟨-, rfl | rfl⟩ := h
    · exact stateOk_of_same hs rfl rfl rfl rfl hIsr
    · exact stateOk_of_same hs rfl rfl rfl rfl nofun
  | reti =>
    obtain ⟨-, rfl⟩ := h
    exact stateOk_of_same hs rfl rfl rfl rfl nofun
  | wrIcr v =>
    obtain ⟨hok, rfl⟩ := h
    exact stateOk_of_same hs rfl rfl rfl rfl fun hisr => hok.resolve_left (by rw [show s.ctx = .isr from hisr]; decide)
  | iRestore =>
    obtain ⟨hok, rfl⟩ := h
    exact stateOk_of_same hs rfl rfl rfl rfl fun hisr => hok.resolve_left (by rw [show s.ctx = .isr from hisr]; decide)
  | cliSave => subst h; exact stateOk_of_same hs rfl rfl rfl rfl fun _ => rfl
  | evCommit =>
    obtain ⟨hwf, hadr, hlad, -⟩ := hs
    obtain ⟨-, rfl⟩ := h
    exact ⟨memWrite_wf _ _ hwf (toNat_commitAddr s ▸ latchAddr_lt s), hadr, hlad, hIsr⟩
  | evReset =>
    obtain ⟨hwf, -, -, -⟩ := hs
    subst h
    exact ⟨cutCommit_wf (s := s) hwf, narrowAddr_lt (Config.drawAddr _), narrowAddr_lt (Config.drawAddr _), nofun⟩
  | wrNvcrWs =>
    obtain ⟨hwf, hadr, hlad, -⟩ := hs
    subst h
    refine ⟨hwf, hadr, ?_, hIsr⟩
    show (if s.weArmed then nvAddr s else s.ladr).toNat < cells s
    split
    · exact nvAddr_lt s
    · exact hlad
  | wrNvadrl | wrNvadrh =>
    obtain ⟨hwf, -, hlad, -⟩ := hs
    subst h
    exact ⟨hwf, narrowAddr_lt (p := s.params) _, hlad, hIsr⟩
  | wrrNvadrl | wrrNvadrh =>
    obtain ⟨hwf, -, hlad, -⟩ := hs
    obtain ⟨v, rfl⟩ := h
    exact ⟨hwf, narrowAddr_lt (p := s.params) _, hlad, hIsr⟩
  | wrrNvdat | wrrDisp | wrrDir | rdNvcr | rdNvdat | rdNvadrl | rdNvadrh | rdDisp | rdIcr
  | rdStat | rdDir | inc | encout | segEncode | segOutpat =>
    obtain ⟨v, rfl⟩ := h; exact stateOk_of_same hs rfl rfl rfl rfl hIsr
  | nop | wrNvcrClr | wrNvcrRe | wrNvcrWe | wrNvdat | wrDisp | wrDir | waitrdy | tgls | evEdge | evPgmset
  | evPgmclr => subst h; exact stateOk_of_same hs rfl rfl rfl rfl hIsr

theorem exec_stateOk {i : Instr} {s t : State} (hs : StateOk s) (h : exec i s = .next t) : StateOk t :=
  exec_rec h hs (fun _ _ _ => stateOk_of_same hs rfl rfl rfl rfl (iFlag_of_stateOk hs)) (OwnEffect.stateOk hs)

theorem seqStep_stateOk {s t : State} (hs : StateOk s) (h : seqStep s = .next t) : StateOk t := by
  obtain ⟨-, -, ⟨-, rfl⟩ | ⟨-, -, rfl⟩ | ⟨-, w, -, -, rfl⟩ | ⟨-, w, i, -, -, hexec⟩⟩ := seqStep_cases h
  · exact stateOk_of_same hs rfl rfl rfl rfl fun _ => rfl
  · exact stateOk_of_same hs rfl rfl rfl rfl (iFlag_of_stateOk hs)
  · exact stateOk_of_same hs rfl rfl rfl rfl (iFlag_of_stateOk hs)
  · exact exec_stateOk hs hexec

/-- Settles O49: the turn taken is no part of the invariant. -/
theorem everyStepKeepsTheStateInvariant : Obligations.EveryStepKeepsTheStateInvariant := by
  unfold Obligations.EveryStepKeepsTheStateInvariant
  intro s t hs h
  obtain ⟨rest, hseq | ⟨e, henv⟩⟩ := step_next_cases h
  · exact seqStep_stateOk (s := { s with turns := rest }) hs hseq
  · exact exec_stateOk (s := { s with turns := rest }) hs henv

/-- Settles O50. -/
theorem resetMeetsTheStateInvariant : Obligations.ResetMeetsTheStateInvariant := by
  unfold Obligations.ResetMeetsTheStateInvariant
  exact ⟨reset_memory_wf, by decide, by decide, nofun⟩

end Sys2Proof.Machine
end

section
/-! The invariant of the fixed programs (R190, R191, R201, R208): each MOP of BOOT_ROM and HANDLER_ROM keeps it, and
the one fault such a MOP can raise is NVMC_BUSY, under a programming operation. -/

namespace Sys2Proof.Machine

open Sys2Proof.Claims

/-! ### The invariant taken apart -/

/-- The part of the invariant about MAIN context. -/
def MainOk (s : State) : Prop :=
  s.mpc ≤ 12 ∧ (7 ≤ s.mpc → s.cur ≠ none) ∧ (s.mpc < 12 → s.iFlag = false ∧ s.busy = false)

/-- The part of the invariant about ISR context. -/
def IsrOk (s : State) : Prop :=
  s.mpc = 12 ∧ s.hpc ≤ 19 ∧ s.iFlag = false ∧ s.cur ≠ none ∧ (10 ≤ s.hpc → s.nxt ≠ none) ∧
    (4 ≤ s.hpc → s.hpc ≤ 6 → s.busy = false) ∧ (12 ≤ s.hpc → s.hpc ≤ 16 → s.busy = false)

theorem fixedOk_iff (s : State) :
    FixedOk s ↔ s.mainProgram = bootRom s.params ∧ s.handlerProgram = handlerRom s.params ∧ s.refused = false ∧
      (∀ r, s.fault = some r → r.kind = .nvmcBusy) ∧ s.savedI = false ∧
      (s.ctx = .main → MainOk s) ∧ (s.ctx = .isr → IsrOk s) := Iff.rfl

theorem fixedOk_mainOk {s : State} (hs : FixedOk s) : s.ctx = .main → MainOk s := by
  obtain ⟨-, -, -, -, -, hmain, -⟩ := (fixedOk_iff s).1 hs
  exact hmain

theorem fixedOk_isrOk {s : State} (hs : FixedOk s) : s.ctx = .isr → IsrOk s := by
  obtain ⟨-, -, -, -, -, -, hisr⟩ := (fixedOk_iff s).1 hs
  exact hisr

theorem fixedOk_savedI {s : State} (hs : FixedOk s) : s.savedI = false := by
  obtain ⟨-, -, -, -, hsaved, -⟩ := (fixedOk_iff s).1 hs
  exact hsaved

/-- Where the programs and FAULT are as they were, SAVED_I and the context's own part are left to show. -/
theorem fixedOk_of_same {s t : State} (hs : FixedOk s) (hsame : SameFixed s t) (hfault : t.fault = s.fault)
    (hsaved : t.savedI = false) (hmain : t.ctx = .main → MainOk t) (hisr : t.ctx = .isr → IsrOk t) : FixedOk t := by
  obtain ⟨hboot, hhandler, hrefused, hkind, -⟩ := hs
  refine (fixedOk_iff t).2 ⟨?_, ?_, hsame.refused.trans hrefused, ?_, hsaved, hmain, hisr⟩
  · rw [hsame.mainProgram, hsame.params, hboot]
  · rw [hsame.handlerProgram, hsame.params, hhandler]
  · rwa [hfault]

theorem fixedOk_faulted_nvmcBusy {s : State} (hs : FixedOk s) (w : Option Word) :
    FixedOk (faulted .nvmcBusy w none s) := by
  obtain ⟨hboot, hhandler, hrefused, -, hrest⟩ := hs
  exact ⟨hboot, hhandler, hrefused, fun r hr => by obtain rfl := Option.some.inj hr; rfl, hrest⟩

/-! ### What a step of the fixed programs does -/

/-- A step from `s` to `t` either keeps the invariant and FAULT, or is the fault NVMC_BUSY under a programming
operation. -/
def KeepsOrBusyFault (s t : State) : Prop :=
  (FixedOk t ∧ t.fault = s.fault) ∨ (s.pgmBusy = true ∧ ∃ w, t = faulted .nvmcBusy w none s)

/-- A checked write where no write is in flight: its fault needs a programming operation. -/
theorem keeps_of_nvmcWrite {s t : State} {i : Instr} {f : State → State} (hbusy : s.busy = false)
    (hf : KeepsOrBusyFault s (retire (f s))) (h : nvmcWrite i f s = .next t) : KeepsOrBusyFault s t := by
  obtain ⟨hflight, rfl⟩ | ⟨-, rfl⟩ := nvmcWrite_cases h
  · exact .inr ⟨by simpa [nvmcBusy, hbusy] using hflight, _, rfl⟩
  · exact hf

/-- WAITRDY holds, or ends with no write in flight. -/
theorem keeps_of_waitrdy {s t : State} (hs : FixedOk s) (hready : s.busy = false → KeepsOrBusyFault s (retire s))
    (h : exec .waitrdy s = .next t) : KeepsOrBusyFault s t := by
  by_cases hflight : inFlight s
  · obtain rfl := Host.Outcome.next.inj ((exec_waitrdy_of_inFlight hflight).symm.trans h)
    exact .inl ⟨hs, rfl⟩
  · have hboth : ready s := by simpa [inFlight] using hflight
    obtain rfl := Host.Outcome.next.inj ((exec_waitrdy_of_ready hboth).symm.trans h)
    exact hready hboth.1

/-- I_RESTORE with SAVED_I = 0 clears I. -/
theorem keeps_of_iRestore {s t : State} (hs : FixedOk s)
    (hrestored : KeepsOrBusyFault s (retire { s with iFlag := s.savedI }))
    (h : exec .iRestore s = .next t) : KeepsOrBusyFault s t := by
  have hno : ¬ (s.ctx = .isr ∧ s.savedI = true) := by simp [fixedOk_savedI hs]
  obtain rfl := Host.Outcome.next.inj ((exec_iRestore_restores hno).symm.trans h)
  exact hrestored

/-- ENCOUT of a written register ends. -/
theorem keeps_of_encout {s t : State} {r : WReg} (hr : working r s ≠ none)
    (hshown : ∀ v, KeepsOrBusyFault s (retire { s with disp := v })) (h : exec (.encout r) s = .next t) :
    KeepsOrBusyFault s t := by
  obtain ⟨v, hv⟩ := Option.ne_none_iff_exists'.1 hr
  rw [exec_encout, withWorking_of_working _ _ hv] at h
  obtain rfl := Host.Outcome.next.inj h
  exact hshown _

/-! ### BOOT_ROM -/

/-- The MOPs of R191 by their MPC, the checked writes together. -/
theorem bootMops_cases {p : Params} {n : Nat} {i : Instr} (h : (bootMops p)[n]? = some i) :
    (n = 0 ∧ i = .wrDir p.dirValue) ∨ (n = 1 ∧ i = .cliSave) ∨ (n = 2 ∧ i = .waitrdy) ∨
      ((3 ≤ n ∧ n ≤ 5) ∧ (i = .wrNvadrl (loByte p.slotAddr) ∨ i = .wrNvadrh (hiByte p.slotAddr) ∨ i = .wrNvcrRe)) ∨
      (n = 6 ∧ i = .rdNvdat .cur) ∨ (n = 7 ∧ i = .iRestore) ∨ (n = 8 ∧ i = .encout .cur) ∨
      (n = 9 ∧ i = .wrIcr 0x01#8) ∨ (n = 10 ∧ i = .wrIcr 0x03#8) ∨ (n = 11 ∧ i = .wrIcr 0x07#8) ∨
      (n = 12 ∧ i = .idle) := by
  obtain ⟨hn, rfl⟩ := List.getElem?_eq_some_iff.1 h
  have hlt : n < 13 := hn
  interval_cases n <;> simp [bootMops, nvRead, arm]

/-- A MOP of BOOT_ROM before IDLE that ends: what is left to show of the elements the invariant speaks of. -/
theorem keeps_of_boot_retire {s u : State} (hs : FixedOk s) (hc : s.ctx = .main) (hn : s.mpc < 12)
    (hsaved : u.savedI = false) (hI : s.mpc + 1 < 12 → u.iFlag = false) (hcur : 7 ≤ s.mpc + 1 → u.cur ≠ none)
    (hbusy : u.busy = s.busy := by rfl) (hsame : SameFixed s u := by exact ⟨rfl, rfl, rfl, rfl, rfl⟩)
    (hfault : u.fault = s.fault := by rfl) (hctx : u.ctx = s.ctx := by rfl) (hmpc : u.mpc = s.mpc := by rfl) :
    KeepsOrBusyFault s (retire u) := by
  obtain ⟨-, -, hlow⟩ := fixedOk_mainOk hs hc
  have hnext : (retire u).mpc = s.mpc + 1 := by rw [retire_mpc, hctx, if_pos hc, hmpc]
  have hsame' : SameFixed s (retire u) :=
    ⟨hsame.params, hsame.mainProgram, hsame.handlerProgram, hsame.turns, hsame.refused⟩
  refine .inl ⟨fixedOk_of_same hs hsame' hfault hsaved (fun _ => ⟨?_, ?_, ?_⟩) fun hisr => ?_, hfault⟩
  · omega
  · rwa [hnext]
  · rw [hnext]
    exact fun h => ⟨hI h, hbusy.trans (hlow hn).2⟩
  · rw [retire_ctx, hctx, hc] at hisr
    cases hisr

/-- `ARM`'s writes of ICR, of which only the last sets I. -/
theorem keeps_of_boot_wrIcr {s t : State} {v : Byte} (hs : FixedOk s) (hc : s.ctx = .main) (hge : 9 ≤ s.mpc)
    (hn : s.mpc < 12) (hI : s.mpc + 1 < 12 → v.getLsbD 2 = false) (h : exec (.wrIcr v) s = .next t) :
    KeepsOrBusyFault s t := by
  obtain ⟨-, hcur, -⟩ := fixedOk_mainOk hs hc
  have hno : ¬ (s.ctx = .isr ∧ v.getLsbD 2 = true) := by simp [hc]
  obtain rfl := Host.Outcome.next.inj ((exec_wrIcr_writes hno).symm.trans h)
  have hsaved := fixedOk_savedI hs
  exact keeps_of_boot_retire (u := { s with grpEn := v.getLsbD 0, pinEn := v.getLsbD 1, iFlag := v.getLsbD 2 }) hs hc hn
    hsaved hI fun _ => hcur (by omega)

theorem keeps_exec_main {s t : State} {i : Instr} (hs : FixedOk s) (hc : s.ctx = .main)
    (hi : (bootMops s.params)[s.mpc]? = some i) (h : exec i s = .next t) : KeepsOrBusyFault s t := by
  obtain ⟨-, hcur, hlow⟩ := fixedOk_mainOk hs hc
  have hsaved := fixedOk_savedI hs
  obtain ⟨hn, rfl⟩ | ⟨hn, rfl⟩ | ⟨hn, rfl⟩ | ⟨hn, hwrite⟩ | ⟨hn, rfl⟩ | ⟨hn, rfl⟩ | ⟨hn, rfl⟩ | ⟨hn, rfl⟩ |
    ⟨hn, rfl⟩ | ⟨hn, rfl⟩ | ⟨hn, rfl⟩ := bootMops_cases hi
  · -- `WR DIR`
    obtain rfl := Host.Outcome.next.inj h
    exact keeps_of_boot_retire hs hc (by omega) hsaved (fun _ => (hlow (by omega)).1) fun _ => by omega
  · -- `CLI_SAVE`
    obtain rfl := Host.Outcome.next.inj ((exec_cliSave s).symm.trans h)
    exact keeps_of_boot_retire (u := { s with savedI := s.iFlag, iFlag := false }) hs hc (by omega)
      (hlow (by omega)).1 (fun _ => rfl) fun _ => by omega
  · -- `WAITRDY`
    refine keeps_of_waitrdy hs (fun _ => ?_) h
    exact keeps_of_boot_retire hs hc (by omega) hsaved (fun _ => (hlow (by omega)).1) fun _ => by omega
  · -- the address and the read strobe
    obtain rfl | rfl | rfl := hwrite
    all_goals
      refine keeps_of_nvmcWrite (hlow (by omega)).2 ?_ h
      exact keeps_of_boot_retire hs hc (by omega) hsaved (fun _ => (hlow (by omega)).1) fun _ => by omega
  · -- `RD CUR, NVDAT`
    obtain rfl := Host.Outcome.next.inj h
    exact keeps_of_boot_retire hs hc (by omega) hsaved (fun _ => (hlow (by omega)).1) nofun
  · -- `I_RESTORE`
    refine keeps_of_iRestore hs ?_ h
    exact keeps_of_boot_retire hs hc (by omega) hsaved (fun _ => hsaved) fun _ => hcur (by omega)
  · -- `ENCOUT CUR`
    refine keeps_of_encout (r := .cur) (hcur (by omega)) (fun _ => ?_) h
    exact keeps_of_boot_retire hs hc (by omega) hsaved (fun _ => (hlow (by omega)).1) fun _ => hcur (by omega)
  · -- `ARM`, which sets I with its third write alone
    exact keeps_of_boot_wrIcr hs hc (by omega) (by omega) (fun _ => rfl) h
  · exact keeps_of_boot_wrIcr hs hc (by omega) (by omega) (fun _ => rfl) h
  · exact keeps_of_boot_wrIcr hs hc (by omega) (by omega) (fun _ => by omega) h
  · -- `IDLE`
    obtain rfl := Host.Outcome.next.inj ((exec_idle_main hc).symm.trans h)
    exact .inl ⟨hs, rfl⟩

/-! ### HANDLER_ROM -/

/-- The MOPs of R190 by their HPC, the checked writes of both accessors together. -/
theorem handlerMops_cases {p : Params} {n : Nat} {i : Instr} (h : (handlerMops p)[n]? = some i) :
    (n = 0 ∧ i = .flipt) ∨ (n = 1 ∧ i = .tgls) ∨ ((n = 2 ∨ n = 10) ∧ i = .cliSave) ∨
      ((n = 3 ∨ n = 11) ∧ i = .waitrdy) ∨
      (((4 ≤ n ∧ n ≤ 6) ∨ n = 12 ∨ n = 13) ∧
        (i = .wrNvadrl (loByte p.slotAddr) ∨ i = .wrNvadrh (hiByte p.slotAddr) ∨ i = .wrNvcrRe)) ∨
      (n = 7 ∧ i = .rdNvdat .cur) ∨ ((n = 8 ∨ n = 17) ∧ i = .iRestore) ∨ (n = 9 ∧ i = .inc) ∨
      (n = 14 ∧ i = .wrrNvdat .nxt) ∨ (n = 15 ∧ i = .wrNvcrWe) ∨ (n = 16 ∧ i = .wrNvcrWs) ∨
      (n = 18 ∧ i = .encout .nxt) ∨ (n = 19 ∧ i = .reti) := by
  obtain ⟨hn, rfl⟩ := List.getElem?_eq_some_iff.1 h
  have hlt : n < 20 := hn
  interval_cases n <;> simp [handlerMops, nvRead, nvWrite, nvWriteBy]

/-- The HPCs from the end of a WAITRDY to its strobe have no write in flight. -/
theorem isrOk_busy {s : State} (h : IsrOk s) (hn : (4 ≤ s.hpc ∧ s.hpc ≤ 6) ∨ (12 ≤ s.hpc ∧ s.hpc ≤ 16)) :
    s.busy = false := by
  obtain ⟨-, -, -, -, -, hread, hwrite⟩ := h
  obtain ⟨hge, hle⟩ | ⟨hge, hle⟩ := hn
  · exact hread hge hle
  · exact hwrite hge hle

/-- In ISR context the end of a MOP moves HPC alone. -/
theorem retire_counters_of_isr {s : State} (hc : s.ctx = .isr) :
    (retire s).hpc = s.hpc + 1 ∧ (retire s).mpc = s.mpc := by simp [hc]

/-- A MOP of HANDLER_ROM that goes on to the next: what is left to show of the elements the invariant speaks of. -/
theorem keeps_of_handler_next {s t : State} (hs : FixedOk s) (hc : s.ctx = .isr) (hn : s.hpc < 19)
    (hnext : t.hpc = s.hpc + 1 ∧ t.mpc = s.mpc) (hsaved : t.savedI = false) (hI : t.iFlag = false)
    (hcur : t.cur ≠ none) (hnxt : 10 ≤ s.hpc + 1 → t.nxt ≠ none)
    (hbusy : (4 ≤ s.hpc + 1 ∧ s.hpc + 1 ≤ 6) ∨ (12 ≤ s.hpc + 1 ∧ s.hpc + 1 ≤ 16) → t.busy = false)
    (hsame : SameFixed s t := by exact ⟨rfl, rfl, rfl, rfl, rfl⟩)
    (hfault : t.fault = s.fault := by rfl) (hctx : t.ctx = s.ctx := by rfl) : KeepsOrBusyFault s t := by
  obtain ⟨hmpc, -⟩ := fixedOk_isrOk hs hc
  obtain ⟨hhpc, hmpc'⟩ := hnext
  refine .inl ⟨fixedOk_of_same hs hsame hfault hsaved (fun hmain => ?_) fun _ => ?_, hfault⟩
  · rw [hctx, hc] at hmain
    cases hmain
  · rw [← hhpc] at hnxt hbusy
    exact ⟨hmpc'.trans hmpc, by omega, hI, hcur, hnxt, fun hge hle => hbusy (.inl ⟨hge, hle⟩),
      fun hge hle => hbusy (.inr ⟨hge, hle⟩)⟩

/-- The return to MAIN context lands at IDLE with I = 1 (R207). -/
theorem keeps_of_interruptReturn {s : State} (hs : FixedOk s) (hc : s.ctx = .isr) (v : Bool) :
    KeepsOrBusyFault s (interruptReturn { s with tFlag := v }) := by
  obtain ⟨hmpc, -, -, hcur, -⟩ := fixedOk_isrOk hs hc
  have hsaved := fixedOk_savedI hs
  exact .inl ⟨fixedOk_of_same hs ⟨rfl, rfl, rfl, rfl, rfl⟩ rfl hsaved
    (fun _ => ⟨hmpc.le, fun _ => hcur, fun hlt => absurd hmpc hlt.ne⟩) nofun, rfl⟩

theorem keeps_exec_isr {s t : State} {i : Instr} (hs : FixedOk s) (hc : s.ctx = .isr)
    (hi : (handlerMops s.params)[s.hpc]? = some i) (h : exec i s = .next t) : KeepsOrBusyFault s t := by
  obtain ⟨-, -, hI, hcur, hnxt, -⟩ := fixedOk_isrOk hs hc
  have hstrobe := isrOk_busy (fixedOk_isrOk hs hc)
  have hsaved := fixedOk_savedI hs
  have hnext := retire_counters_of_isr hc
  obtain ⟨hn, rfl⟩ | ⟨hn, rfl⟩ | ⟨hn, rfl⟩ | ⟨hn, rfl⟩ | ⟨hn, hwrite⟩ | ⟨hn, rfl⟩ | ⟨hn, rfl⟩ | ⟨hn, rfl⟩ |
    ⟨hn, rfl⟩ | ⟨hn, rfl⟩ | ⟨hn, rfl⟩ | ⟨hn, rfl⟩ | ⟨hn, rfl⟩ := handlerMops_cases hi
  · -- `FLIPT`
    cases hT : s.tFlag with
    | false =>
      obtain rfl := Host.Outcome.next.inj ((exec_flipt_first hc hT).symm.trans h)
      exact keeps_of_interruptReturn hs hc true
    | true =>
      obtain rfl := Host.Outcome.next.inj ((exec_flipt_second hc hT).symm.trans h)
      exact keeps_of_handler_next hs hc (by omega) hnext hsaved hI hcur (by omega) fun _ => by omega
  · -- `TGLS`
    obtain rfl := Host.Outcome.next.inj ((exec_tgls s).symm.trans h)
    exact keeps_of_handler_next hs hc (by omega) hnext hsaved hI hcur (by omega) fun _ => by omega
  · -- `CLI_SAVE`
    obtain rfl := Host.Outcome.next.inj ((exec_cliSave s).symm.trans h)
    exact keeps_of_handler_next hs hc (by omega) hnext hI rfl hcur (fun _ => hnxt (by omega)) fun _ => by omega
  · -- `WAITRDY`
    exact keeps_of_waitrdy hs (fun hready => keeps_of_handler_next hs hc (by omega) hnext hsaved hI hcur
      (fun _ => hnxt (by omega)) fun _ => hready) h
  · -- the address and the read strobe
    have hbusy := hstrobe (by omega)
    obtain rfl | rfl | rfl := hwrite
    all_goals
      refine keeps_of_nvmcWrite hbusy ?_ h
      exact keeps_of_handler_next hs hc (by omega) hnext hsaved hI hcur (fun _ => hnxt (by omega)) fun _ => hbusy
  · -- `RD CUR, NVDAT`
    obtain rfl := Host.Outcome.next.inj h
    exact keeps_of_handler_next hs hc (by omega) hnext hsaved hI nofun (by omega) fun _ => by omega
  · -- `I_RESTORE`
    refine keeps_of_iRestore hs ?_ h
    exact keeps_of_handler_next hs hc (by omega) hnext hsaved hsaved hcur (fun _ => hnxt (by omega)) fun _ => by omega
  · -- `INC`
    obtain ⟨v, hv⟩ := Option.ne_none_iff_exists'.1 hcur
    rw [exec_inc, withWorking_of_working (r := .cur) _ _ hv] at h
    obtain rfl := Host.Outcome.next.inj h
    exact keeps_of_handler_next hs hc (by omega) hnext hsaved hI hcur nofun fun _ => by omega
  · -- `WRR NVDAT, NXT`
    have hbusy := hstrobe (by omega)
    obtain ⟨v, hv⟩ := Option.ne_none_iff_exists'.1 (hnxt (by omega))
    refine keeps_of_nvmcWrite hbusy ?_ ((withWorking_of_working (r := .nxt) _ _ hv).symm.trans h)
    exact keeps_of_handler_next hs hc (by omega) hnext hsaved hI hcur (fun _ => hnxt (by omega)) fun _ => hbusy
  · -- `WR NVCR, WE`
    have hbusy := hstrobe (by omega)
    by_cases hflight : inFlight s
    · rw [exec_wrNvcrWe_of_inFlight hflight, ← faulted_eq_withFault] at h
      obtain rfl := Host.Outcome.next.inj h
      exact .inr ⟨by simpa [inFlight, hbusy] using hflight, _, rfl⟩
    · have hready : ready s := by simpa [inFlight] using hflight
      obtain rfl := Host.Outcome.next.inj ((exec_wrNvcrWe_of_ready hready).symm.trans h)
      exact keeps_of_handler_next hs hc (by omega) hnext hsaved hI hcur (fun _ => hnxt (by omega)) fun _ => hbusy
  · -- `WR NVCR, WS`
    refine keeps_of_nvmcWrite (hstrobe (by omega)) ?_ h
    exact keeps_of_handler_next hs hc (by omega) hnext hsaved hI hcur (fun _ => hnxt (by omega)) fun _ => by omega
  · -- `ENCOUT NXT`
    refine keeps_of_encout (r := .nxt) (hnxt (by omega)) (fun _ => ?_) h
    exact keeps_of_handler_next hs hc (by omega) hnext hsaved hI hcur (fun _ => hnxt (by omega)) fun _ => by omega
  · -- `RETI`
    obtain rfl := Host.Outcome.next.inj ((exec_reti_isr hc).symm.trans h)
    exact keeps_of_interruptReturn hs hc s.tFlag

/-! ### The step -/

/-- A program whose words decode to the MOPs `is` has at each index the word of the MOP there. -/
theorem exists_word_of_mops {ws : List Word} {is : List Instr} (h : ws.map decode = is.map .mop) {n : Nat} {i : Instr}
    (hi : is[n]? = some i) : ∃ w, ws[n]? = some w ∧ decode w = .mop i := by
  have hn : (ws.map decode)[n]? = some (.mop i) := by rw [h, List.getElem?_map, hi]; rfl
  simpa [List.getElem?_map] using hn

/-- Under the invariant there is a MOP of the fixed programs at the running counter, and SEQ executes it. -/
theorem fixedOk_seqStep_eq_exec {s : State} (hs : FixedOk s) (hfault : s.fault = none) (hrequest : ¬ request s) :
    ∃ i, seqStep s = exec i s ∧ ((s.ctx = .main ∧ (bootMops s.params)[s.mpc]? = some i) ∨
      (s.ctx = .isr ∧ (handlerMops s.params)[s.hpc]? = some i)) := by
  obtain ⟨hboot, hhandler, hrefused, -⟩ := id hs
  cases hc : s.ctx with
  | main =>
    obtain ⟨hn, -⟩ := fixedOk_mainOk hs hc
    have hlt : s.mpc < (bootMops s.params).length := Nat.lt_succ_of_le hn
    obtain ⟨w, hw, hmop⟩ := exists_word_of_mops (bootRom_decode s.params) (List.getElem?_eq_getElem hlt)
    have hfetched : fetched s = some w := by rw [fetched, if_pos hc, hboot, hw]
    exact ⟨_, (seqStep_of_fetched hfault hrefused hrequest hfetched).trans (runWord_of_mop hmop s),
      .inl ⟨rfl, List.getElem?_eq_getElem hlt⟩⟩
  | isr =>
    obtain ⟨-, hn, -⟩ := fixedOk_isrOk hs hc
    have hlt : s.hpc < (handlerMops s.params).length := Nat.lt_succ_of_le hn
    obtain ⟨w, hw, hmop⟩ := exists_word_of_mops (handlerRom_decode s.params) (List.getElem?_eq_getElem hlt)
    have hfetched : fetched s = some w := by rw [fetched, if_neg (by simp [hc]), hhandler, hw]
    exact ⟨_, (seqStep_of_fetched hfault hrefused hrequest hfetched).trans (runWord_of_mop hmop s),
      .inr ⟨rfl, List.getElem?_eq_getElem hlt⟩⟩

/-- A request is taken at IDLE only, since I = 0 before it. -/
theorem fixedOk_interruptEntry {s : State} (hs : FixedOk s) (hrequest : request s) : FixedOk (interruptEntry s) := by
  obtain ⟨hc, hI, -⟩ := hrequest
  obtain ⟨hn, hcur, hlow⟩ := fixedOk_mainOk hs hc
  have hidle : s.mpc = 12 := by
    by_contra hne
    simp [(hlow (by omega)).1] at hI
  have hsaved := fixedOk_savedI hs
  exact fixedOk_of_same hs ⟨rfl, rfl, rfl, rfl, rfl⟩ rfl hsaved nofun
    fun _ => ⟨hidle, by simp, rfl, hcur (by omega), by simp, by simp, by simp⟩

theorem keeps_seqStep {s t : State} (hs : FixedOk s) (h : seqStep s = .next t) : KeepsOrBusyFault s t := by
  have hfault : s.fault = none := (seqStep_cases h).1
  by_cases hrequest : request s
  · obtain ⟨-, -, hrefused, -⟩ := id hs
    obtain rfl := Host.Outcome.next.inj ((seqStep_of_request hfault hrefused hrequest).symm.trans h)
    exact .inl ⟨fixedOk_interruptEntry hs hrequest, rfl⟩
  · obtain ⟨i, hexec, ⟨hc, hi⟩ | ⟨hc, hi⟩⟩ := fixedOk_seqStep_eq_exec hs hfault hrequest
    · exact keeps_exec_main hs hc hi (hexec ▸ h)
    · exact keeps_exec_isr hs hc hi (hexec ▸ h)

/-- An event clears BUSY, if it writes it at all, and RESET starts BOOT_ROM again. -/
theorem fixedOk_event {s t : State} {e : Event} (hs : FixedOk s) (h : exec (eventInstr e) s = .next t) : FixedOk t := by
  have hsame := exec_sameFixed h
  have hfault := (exec_event_keeps_fault_refused h).1
  have hsaved := fixedOk_savedI hs
  have hmain := fixedOk_mainOk hs
  have hisr := fixedOk_isrOk hs
  cases e with
  | edge | pgmset | pgmclr =>
    obtain rfl := Host.Outcome.next.inj h
    exact fixedOk_of_same hs hsame hfault hsaved hmain hisr
  | reset =>
    obtain rfl := Host.Outcome.next.inj h
    exact fixedOk_of_same hs hsame hfault rfl (fun _ => ⟨by simp, by simp, by simp⟩) nofun
  | commit =>
    cases hbusy : s.busy with
    | false =>
      obtain rfl := Host.Outcome.next.inj ((exec_evCommit_of_not_busy hbusy).symm.trans h)
      exact hs
    | true =>
      obtain rfl := Host.Outcome.next.inj ((exec_evCommit_of_busy hbusy).symm.trans h)
      refine fixedOk_of_same hs hsame hfault hsaved (fun hc => ?_) fun hc => ?_
      · obtain ⟨hn, hcur, hlow⟩ := hmain hc
        exact ⟨hn, hcur, fun hlt => ⟨(hlow hlt).1, rfl⟩⟩
      · obtain ⟨hmpc, hhpc, hI, hcur, hnxt, -⟩ := hisr hc
        exact ⟨hmpc, hhpc, hI, hcur, hnxt, fun _ _ => rfl, fun _ _ => rfl⟩

/-- Settles O51: by the MOP at the counter, interrupt entry, and the events. -/
theorem everyStepKeepsTheFixedProgramsInvariant : Obligations.EveryStepKeepsTheFixedProgramsInvariant := by
  unfold Obligations.EveryStepKeepsTheFixedProgramsInvariant
  intro s t hs h
  obtain ⟨rest, hseq | ⟨e, henv⟩⟩ := step_next_cases h
  · obtain ⟨ht, -⟩ | ⟨-, w, rfl⟩ := keeps_seqStep (s := { s with turns := rest }) hs hseq
    · exact ht
    · exact fixedOk_faulted_nvmcBusy (s := { s with turns := rest }) hs w
  · exact fixedOk_event (s := { s with turns := rest }) hs henv

/-- Settles O53: the one fault left needs PGM_BUSY = 1. -/
theorem fixedProgramsFaultOnlyUnderProgramming : Obligations.FixedProgramsFaultOnlyUnderProgramming := by
  unfold Obligations.FixedProgramsFaultOnlyUnderProgramming
  intro s t hs hpgm hfault h
  have ht : FixedOk t := everyStepKeepsTheFixedProgramsInvariant s t hs h
  obtain ⟨-, -, hrefused, -⟩ := ht
  obtain ⟨rest, hseq | ⟨e, henv⟩⟩ := step_next_cases h
  · obtain ⟨-, hkeep⟩ | ⟨hbusy, -⟩ := keeps_seqStep (s := { s with turns := rest }) hs hseq
    · exact ⟨hkeep.trans hfault, hrefused⟩
    · exact absurd (hpgm.symm.trans hbusy) (by decide)
  · exact ⟨(exec_event_keeps_fault_refused henv).1.trans hfault, hrefused⟩

/-! ### A clean launch (R236) -/

theorem cleanLaunch_iff (s : State) :
    cleanLaunch s = true ↔
      (s.weArmed = false ∧ s.busy = false ∧ s.ctx = .main ∧ s.mpc = 0 ∧ s.hpc = 0 ∧ s.cur = none ∧ s.nxt = none) ∧
        (s.iFlag = false ∧ s.savedI = false ∧ s.tFlag = false ∧ s.grpEn = false ∧ s.pinEn = false ∧ s.pend = false) ∧
        s.fault = none ∧ s.refused = false := by
  simp [cleanLaunch, and_assoc]

theorem fixedPrograms_iff (s : State) :
    fixedPrograms s = true ↔ s.mainProgram = bootRom s.params ∧ s.handlerProgram = handlerRom s.params := by
  simp [fixedPrograms]

/-- Settles O52: MPC = 0 with I = BUSY = 0 and FAULT empty. -/
theorem cleanLaunchMeetsTheFixedProgramsInvariant : Obligations.CleanLaunchMeetsTheFixedProgramsInvariant := by
  unfold Obligations.CleanLaunchMeetsTheFixedProgramsInvariant
  refine ⟨fun s hclean hfixed => ?_, by decide, by decide⟩
  obtain ⟨⟨-, hbusy, hc, hmpc, -⟩, ⟨hI, hsaved, -⟩, hfault, hrefused⟩ := (cleanLaunch_iff s).1 hclean
  obtain ⟨hboot, hhandler⟩ := (fixedPrograms_iff s).1 hfixed
  refine (fixedOk_iff s).2 ⟨hboot, hhandler, hrefused, fun r hr => ?_, hsaved, fun _ => ?_, fun hisr => ?_⟩
  · exact absurd (hfault.symm.trans hr) nofun
  · exact ⟨by omega, fun hge => by omega, fun _ => ⟨hI, hbusy⟩⟩
  · exact absurd (hc.symm.trans hisr) nofun

end Sys2Proof.Machine
end

section
/-! MOPs one after the other, undisturbed (R58, R89, R90): the two accessors as one change of the state each. -/

namespace Sys2Proof.Machine

open Sys2Proof.Claims

/-! ### Lists of MOPs -/

theorem execAll_cons {i : Instr} {s t : State} (is : List Instr) (h : exec i s = .next t) :
    execAll (i :: is) s = execAll is t := by
  simp only [execAll, h]

/-- One MOP, and then the rest. -/
theorem execAll_step {i : Instr} {is : List Instr} {s t u : State} (h : exec i s = .next t)
    (hrest : execAll is t = .next u) : execAll (i :: is) s = .next u :=
  (execAll_cons is h).trans hrest

theorem execAll_cons_inv {i : Instr} {is : List Instr} {s t : State} (h : execAll (i :: is) s = .next t) :
    ∃ u, exec i s = .next u ∧ execAll is u = .next t := by
  obtain ⟨u, hu⟩ := exec_total i s
  exact ⟨u, hu, execAll_cons is hu ▸ h⟩

theorem execAll_append {is : List Instr} {s t : State} (js : List Instr) (h : execAll is s = .next t) :
    execAll (is ++ js) s = execAll js t := by
  induction is generalizing s with
  | nil => rw [← Host.Outcome.next.inj h]; rfl
  | cons i is ih =>
    obtain ⟨u, hu, hrest⟩ := execAll_cons_inv h
    rw [List.cons_append, execAll_cons _ hu, ih hrest]

/-! ### A byte written, committed and read back (R58) -/

theorem exec_rdNvdat (r : WReg) (s : State) : exec (.rdNvdat r) s = .next (ends (writeWorking r s.nvdat s)) := rfl

/-- LADR as the write strobe latches it is an address as a number. -/
theorem latchAddr_of_latched {s t : State} (hparams : t.params = s.params) (hladr : t.ladr = nvAddr s) :
    latchAddr t = addr s := by
  rw [latchAddr, hladr, toNat_nvAddr, addr, cells, cells, hparams, Nat.mod_mod]

/-- R131: COMMIT, by the address and the byte it finds latched. -/
theorem exec_evCommit_of_latched {s : State} {a : Nat} {v : Byte} (hbusy : s.busy = true) (ha : latchAddr s = a)
    (hv : s.ldat = v) : exec .evCommit s = .next { s with nvm := memWrite s.nvm a v, busy := false } := by
  rw [exec_evCommit_of_busy hbusy, ha, hv]

/-- Settles O54: LADR is NVADR at the strobe, COMMIT is one `memWrite`, and RE reads at the same NVADR. -/
theorem committedByteReadsBack : Obligations.CommittedByteReadsBack := by
  unfold Obligations.CommittedByteReadsBack
  intro v s hready
  have hread : memRead (memWrite s.nvm (addr s) v) (addr s) = v := memRead_memWrite_self _ _ _
  have hlatch : ∀ t : State, t.params = s.params → t.ladr = nvAddr s → latchAddr t = addr s :=
    fun _ => latchAddr_of_latched
  refine ⟨_, execAll_step ((exec_wrNvdat v _).trans (nvmcWrite_of_ready _ _ hready))
    (execAll_step (exec_wrNvcrWe_of_ready hready)
    (execAll_step ((exec_wrNvcrWs _).trans (nvmcWrite_of_ready _ _ hready))
    (execAll_step (exec_evCommit_of_latched rfl (hlatch _ rfl rfl) rfl)
    (execAll_step ((exec_wrNvdat _ _).trans (nvmcWrite_of_ready _ _ ⟨rfl, hready.2⟩))
    (execAll_step ((exec_wrNvcrRe _).trans ((nvmcWrite_of_ready _ _ ⟨rfl, hready.2⟩)))
    (execAll_step (exec_rdNvdat .cur _) rfl)))))), ?_, ?_, rfl, hread, fun a ha => memRead_memWrite_other _ _ _ _ ha⟩
  · exact congrArg some ((congrArg _ (toNat_nvAddr s)).trans hread)
  · exact (congrArg _ (toNat_nvAddr s)).trans hread

/-! ### The accessors (R89, R90) -/

/-- The running context's counter, `n` MOPs on. -/
def advanceBy (n : Nat) (s : State) : State :=
  { s with
    mpc := if s.ctx = .main then s.mpc + n else s.mpc
    hpc := if s.ctx = .isr then s.hpc + n else s.hpc }

/-- `SLOT_ADDR` as NVADR holds it. -/
def slotWord (s : State) : Word := narrowAddr s.params s.params.slotAddr

/-- The four MOPs with which every accessor begins: I saved and cleared, the hold, and NVADR at the slot. -/
def openSlot (p : Params) : List Instr :=
  [.cliSave, .waitrdy, .wrNvadrl (loByte p.slotAddr), .wrNvadrh (hiByte p.slotAddr)]

/-- Where these four MOPs leave the machine. -/
def slotOpened (s : State) : State :=
  advanceBy 4 { s with savedI := s.iFlag, iFlag := false, nvadr := slotWord s, weArmed := false }

theorem execAll_openSlot {s : State} (h : ready s) : execAll (openSlot s.params) s = .next (slotOpened s) := by
  refine execAll_step (exec_cliSave s) (execAll_step (exec_waitrdy_of_ready h)
    (execAll_step ((exec_wrNvadrl _ _).trans (nvmcWrite_of_ready _ _ h))
    (execAll_step ((exec_wrNvadrh _ _).trans (nvmcWrite_of_ready _ _ h)) ?_)))
  have hslot : (setAddrHigh (hiByte s.params.slotAddr) (setAddrLow (loByte s.params.slotAddr) s)).nvadr = slotWord s :=
    setAddrHigh_setAddrLow_nvadr s.params.slotAddr s
  rw [execAll, slotOpened, ← hslot]
  cases hc : s.ctx <;> simp [ends, advanceBy, hc, setAddrHigh, setAddrLow, nvAddr]

/-- Where an undisturbed `NV_READ r` leaves the machine (R151). -/
def nvReadEnd (r : WReg) (s : State) : State :=
  advanceBy 7 (writeWorking r (slotByte s)
    { s with savedI := s.iFlag, nvadr := slotWord s, nvdat := slotByte s, weArmed := false })

/-- Where an undisturbed NV_WRITE of the byte `v` leaves the machine (R152). -/
def nvWriteEnd (v : Byte) (s : State) : State :=
  advanceBy 8 { s with
    savedI := s.iFlag, nvadr := slotWord s, nvdat := v, ladr := slotWord s, ldat := v, busy := true, weArmed := false }

/-- The read accessor: after the opening, the strobe reads the slot, and I is restored, which faults only for I = 1 in
ISR context. -/
theorem execAll_nvRead (r : WReg) {s : State} (h : ready s) (hI : s.ctx = .isr → s.iFlag = false) :
    execAll (nvRead s.params r) s = .next (nvReadEnd r s) := by
  have hno : ¬ (s.ctx = .isr ∧ s.iFlag = true) := fun ⟨hc, hset⟩ => absurd ((hI hc).symm.trans hset) (by decide)
  have hslot : slotByte s = memRead s.nvm (nvAddr (slotOpened s)).toNat := by
    rw [slotByte, nvAddr, slotOpened, advanceBy, slotWord, narrowAddr_narrowAddr]
  have hsplit : nvRead s.params r = openSlot s.params ++ [.wrNvcrRe, .rdNvdat r, .iRestore] := rfl
  rw [hsplit, execAll_append _ (execAll_openSlot h)]
  refine execAll_step ((exec_wrNvcrRe _).trans (nvmcWrite_of_ready _ _ h)) (execAll_step (exec_rdNvdat r _)
    (execAll_step (exec_iRestore_restores hno) ?_))
  rw [execAll, nvReadEnd, hslot]
  cases hc : s.ctx <;> simp [ends, advanceBy, slotOpened, writeWorking, readStrobe, hc]

/-- The write accessor, whichever MOP sets its data register. -/
theorem execAll_nvWriteBy {v : Byte} {s : State} {setData : Instr} (h : ready s) (hI : s.ctx = .isr → s.iFlag = false)
    (hset : exec setData (slotOpened s) = .next (ends { slotOpened s with nvdat := v })) :
    execAll (nvWriteBy s.params setData) s = .next (nvWriteEnd v s) := by
  have hno : ¬ (s.ctx = .isr ∧ s.iFlag = true) := fun ⟨hc, hset⟩ => absurd ((hI hc).symm.trans hset) (by decide)
  have hsplit : nvWriteBy s.params setData = openSlot s.params ++ [setData, .wrNvcrWe, .wrNvcrWs, .iRestore] := rfl
  rw [hsplit, execAll_append _ (execAll_openSlot h)]
  refine execAll_step hset (execAll_step (exec_wrNvcrWe_of_ready h)
    (execAll_step ((exec_wrNvcrWs _).trans (nvmcWrite_of_ready _ _ h)) (execAll_step (exec_iRestore_restores hno) ?_)))
  rw [execAll, nvWriteEnd]
  cases hc : s.ctx <;> simp [ends, advanceBy, slotOpened, slotWord, writeStrobe, nvAddr, hc]

theorem execAll_nvWrite {r : WReg} {v : Byte} {s : State} (h : ready s) (hr : working r s = some v)
    (hI : s.ctx = .isr → s.iFlag = false) : execAll (nvWrite s.params r) s = .next (nvWriteEnd v s) := by
  have hr' : working r (slotOpened s) = some v := by rw [← hr]; cases r <;> rfl
  exact execAll_nvWriteBy h hI ((withWorking_of_working _ _ hr').trans (nvmcWrite_of_ready _ _ h))

theorem addr_of_slotWord {s t : State} (hparams : t.params = s.params) (hnvadr : t.nvadr = slotWord s) :
    addr t = s.params.slotAddr.toNat % cells s := by
  rw [addr, hnvadr, slotWord, toNat_narrowAddr, cells, cells, hparams, Nat.mod_mod]

theorem latchAddr_of_slotWord {s t : State} (hparams : t.params = s.params) (hladr : t.ladr = slotWord s) :
    latchAddr t = s.params.slotAddr.toNat % cells s := by
  rw [latchAddr, hladr, slotWord, toNat_narrowAddr, cells, cells, hparams, Nat.mod_mod]

theorem slotByte_eq (s : State) : slotByte s = memRead s.nvm (s.params.slotAddr.toNat % cells s) := by
  rw [slotByte, toNat_narrowAddr, cells]

theorem counter_advanceBy (n : Nat) (s : State) : counter (advanceBy n s) = counter s + n := by
  cases hc : s.ctx <;> simp [counter, advanceBy, hc]

/-- Settles O55. -/
theorem nvReadReturnsTheSlot : Obligations.NvReadReturnsTheSlot := by
  unfold Obligations.NvReadReturnsTheSlot
  intro r s hready hI
  have haddr : addr (nvReadEnd r s) = s.params.slotAddr.toNat % cells s := addr_of_slotWord rfl rfl
  have hbyte : (nvReadEnd r s).nvdat = memRead s.nvm (addr (nvReadEnd r s)) := by rw [haddr, ← slotByte_eq]; rfl
  have hworking : working r (nvReadEnd r s) = some (slotByte s) := by cases r <;> rfl
  exact ⟨_, execAll_nvRead r hready hI, haddr, hbyte, hworking, rfl, rfl, rfl, rfl, rfl, counter_advanceBy 7 _⟩

/-- Settles O56. -/
theorem nvWriteLatchesTheSlot : Obligations.NvWriteLatchesTheSlot := by
  unfold Obligations.NvWriteLatchesTheSlot
  intro r v s hready hr hI
  have haddr : addr (nvWriteEnd v s) = s.params.slotAddr.toNat % cells s := addr_of_slotWord rfl rfl
  have hlatch : latchAddr (nvWriteEnd v s) = addr (nvWriteEnd v s) := (latchAddr_of_slotWord rfl rfl).trans haddr.symm
  exact ⟨_, execAll_nvWrite hready hr hI, haddr, hlatch, rfl, rfl, rfl, rfl, rfl, rfl, rfl, counter_advanceBy 8 _⟩

end Sys2Proof.Machine
end

section
/-! The sequencer running a program (R162): `k` SEQ steps, and the turns they take; a stretch of a program that runs
straight on is its MOPs one after the other. -/

namespace Sys2Proof.Machine

open Sys2Proof.Claims

/-! ### SEQ steps and the machine's steps (R17, log entry 5) -/

/-- `n` SEQ steps, stopping at the first that answers no next state. -/
def seqSteps : Nat → State → Answer
  | 0, s => .next s
  | n + 1, s =>
    match seqStep s with
    | .next t => seqSteps n t
    | .fault r => .fault r
    | .refused r => .refused r

theorem seqSteps_succ {n : Nat} {s t u : State} (h : seqStep s = .next t) (hrest : seqSteps n t = .next u) :
    seqSteps (n + 1) s = .next u := by
  simp only [seqSteps, h, hrest]

theorem seqSteps_succ_inv {n : Nat} {s u : State} (h : seqSteps (n + 1) s = .next u) :
    ∃ t, seqStep s = .next t ∧ seqSteps n t = .next u := by
  unfold seqSteps at h
  split at h
  next t ht => exact ⟨t, ht, h⟩
  all_goals cases h

theorem seqSteps_add {m n : Nat} {s t u : State} (h : seqSteps m s = .next t) (hrest : seqSteps n t = .next u) :
    seqSteps (n + m) s = .next u := by
  induction m generalizing s with
  | zero => rwa [Host.Outcome.next.inj h]
  | succ m ih =>
    obtain ⟨v, hv, hm⟩ := seqSteps_succ_inv h
    exact seqSteps_succ hv (ih hm)

theorem seqStep_keeps_turns {s t : State} (h : seqStep s = .next t) : t.turns = s.turns := by
  obtain hsame | rfl := seqStep_sameFixed_or_refuse h
  · exact hsame.turns
  · rfl

/-- The sequencer does not read the turns. -/
theorem seqStep_turns {s t : State} (l : List Turn) (h : seqStep s = .next t) :
    seqStep { s with turns := l } = .next { t with turns := l } := by
  obtain ⟨hfault, hrefused, ⟨hirq, rfl⟩ | ⟨hirq, hw, rfl⟩ | ⟨hirq, w, hw, hno, rfl⟩ | ⟨hirq, w, i, hw, hmop, hexec⟩⟩ :=
    seqStep_cases h
  · exact seqStep_of_request (s := { s with turns := l }) hfault hrefused ((irq_eq_true_iff_request s).1 hirq)
  all_goals
    have hrequest : ¬ request { s with turns := l } := fun hr => by
      rw [(irq_eq_true_iff_request s).2 hr] at hirq
      cases hirq
    rw [fetchWord_eq_fetched] at hw
  · exact seqStep_of_fetched_none (s := { s with turns := l }) hfault hrefused hrequest hw
  · rw [seqStep_of_fetched (s := { s with turns := l }) hfault hrefused hrequest hw, runWord_of_not_mop hno]
    rfl
  · rw [seqStep_of_fetched (s := { s with turns := l }) hfault hrefused hrequest hw, runWord_of_mop hmop,
      exec_turns l hexec]

theorem run_succ {n : Nat} {s t : State} (h : step s = .next t) :
    Host.Core.run core (n + 1) s = Host.Core.run core n t := by
  have hstep : core.step s = .next t := h
  simp only [Host.Core.run, hstep]

/-- With no turns listed every step is SEQ's. -/
theorem run_of_no_turns {n : Nat} {s t : State} (hturns : s.turns = []) (h : seqSteps n s = .next t) :
    Host.Core.run core n s = .next t := by
  induction n generalizing s with
  | zero => exact h
  | succ n ih =>
    obtain ⟨u, hu, hrest⟩ := seqSteps_succ_inv h
    rw [run_succ ((step_no_turn hturns).trans hu)]
    exact ih ((seqStep_keeps_turns hu).trans hturns) hrest

/-- With `n` of SEQ's turns listed, the next `n` steps are SEQ's. -/
theorem run_of_seq_turns {n m : Nat} {s t u : State} (l : List Turn) (h : seqSteps n s = .next t)
    (hrest : Host.Core.run core m { t with turns := l } = .next u) :
    Host.Core.run core (n + m) { s with turns := List.replicate n .seq ++ l } = .next u := by
  induction n generalizing s with
  | zero =>
    obtain rfl := Host.Outcome.next.inj h
    rwa [Nat.zero_add]
  | succ n ih =>
    obtain ⟨v, hv, hsteps⟩ := seqSteps_succ_inv h
    have hseq := seqStep_turns (List.replicate n .seq ++ l) hv
    have hturn : step { s with turns := List.replicate (n + 1) .seq ++ l } =
        .next { v with turns := List.replicate n .seq ++ l } := (step_seq_turn rfl).trans hseq
    rw [Nat.succ_add, run_succ hturn]
    exact ih hsteps

/-- ENV's turn. -/
theorem run_of_env_turn {m : Nat} {s t u : State} {e : Event} (l : List Turn) (h : exec (eventInstr e) s = .next t)
    (hrest : Host.Core.run core m { t with turns := l } = .next u) :
    Host.Core.run core (m + 1) { s with turns := .env e :: l } = .next u := by
  have hevent := exec_turns l h
  have hturn : step { s with turns := .env e :: l } = .next { t with turns := l } := (step_env_turn rfl).trans hevent
  rw [run_succ hturn, hrest]

/-! ### A stretch of a program -/

/-- From the running counter on, the running program has the words of the MOPs `is`. -/
def ProgramHas (s : State) (is : List Instr) : Prop :=
  ∀ k i, is[k]? = some i → ∃ w, (runningProgram s)[upc s + k]? = some w ∧ decode w = .mop i

/-- R162: SEQ executes the MOP at the running counter. -/
theorem seqStep_of_programHas {s : State} {i : Instr} {is : List Instr} (hfault : s.fault = none)
    (hrefused : s.refused = false) (hrequest : ¬ request s) (hprog : ProgramHas s (i :: is)) :
    seqStep s = exec i s := by
  obtain ⟨w, hw, hmop⟩ := hprog 0 i rfl
  rw [seqStep_of_fetched hfault hrefused hrequest ((fetchWord_eq_fetched s).symm.trans hw), runWord_of_mop hmop]

theorem programHas_tail {s t : State} {i : Instr} {is : List Instr} (hprog : ProgramHas s (i :: is))
    (hsame : SameFixed s t) (hctx : t.ctx = s.ctx) (hupc : upc t = upc s + 1) : ProgramHas t is := by
  intro k j hj
  have hrun : runningProgram t = runningProgram s := by
    rw [runningProgram, runningProgram, hctx, hsame.mainProgram, hsame.handlerProgram]
  rw [hrun, hupc, Nat.add_right_comm, Nat.add_assoc]
  exact hprog (k + 1) j hj

/-- No instruction clears FAULT. -/
theorem fault_eq_none_of_exec {i : Instr} {s t : State} (h : exec i s = .next t) (ht : t.fault = none) :
    s.fault = none := by
  obtain ⟨k, r, rfl, -⟩ | rfl | hown := exec_cases h
  · cases ht
  · exact ht
  · exact hown.sameFixed.2.symm.trans ht

theorem OwnEffect.upc_le {i : Instr} {s t : State} (hctx : t.ctx = s.ctx) (h : OwnEffect i s t) :
    upc t ≤ upc s + 1 := by
  cases i with
  | idle => exact h.elim
  | flipt =>
    obtain ⟨hisr, rfl | rfl⟩ := h
    · exact (upc_retire _).le
    · exact absurd (hctx.trans hisr) nofun
  | reti =>
    obtain ⟨hisr, rfl⟩ := h
    exact absurd (hctx.trans hisr) nofun
  | evReset => subst h; exact Nat.zero_le _
  | evCommit => obtain ⟨-, rfl⟩ := h; exact Nat.le_succ _
  | segEncode | segOutpat => obtain ⟨v, rfl⟩ := h; exact Nat.le_succ _
  | evEdge | evPgmset | evPgmclr => subst h; exact Nat.le_succ _
  | wrIcr | iRestore => obtain ⟨-, rfl⟩ := h; exact (upc_retire _).le
  | wrrNvdat | wrrNvadrl | wrrNvadrh | wrrDisp | wrrDir | rdNvcr | rdNvdat | rdNvadrl | rdNvadrh | rdDisp | rdIcr
  | rdStat | rdDir | inc | encout => obtain ⟨v, rfl⟩ := h; exact (upc_retire _).le
  | wrNvcrWe => subst h; exact (upc_retire s).le
  | nop | wrNvcrClr | wrNvcrRe | wrNvcrWs | wrNvdat | wrNvadrl | wrNvadrh | wrDisp | wrDir | waitrdy | tgls
  | cliSave => subst h; exact (upc_retire _).le

/-- An instruction that stays in its context moves the counter on by one at most. -/
theorem upc_le_of_exec {i : Instr} {s t : State} (h : exec i s = .next t) (hctx : t.ctx = s.ctx) :
    upc t ≤ upc s + 1 := by
  obtain ⟨k, r, rfl, -⟩ | rfl | hown := exec_cases h
  · exact Nat.le_succ (upc s)
  · exact Nat.le_succ _
  · exact hown.upc_le hctx

/-- MOPs that end in ISR context, or began in MAIN context, stayed there: no instruction enters ISR context. -/
theorem execAll_keeps_main {is : List Instr} {s t : State} (h : execAll is s = .next t) (hc : s.ctx = .main) :
    t.ctx = .main := by
  induction is generalizing s with
  | nil => rwa [← Host.Outcome.next.inj h]
  | cons i is ih =>
    obtain ⟨u, hu, hrest⟩ := execAll_cons_inv h
    exact ih hrest (exec_keeps_main hc hu)

theorem ctx_eq_of_execAll_cons {i : Instr} {is : List Instr} {s t u : State} (hu : exec i s = .next u)
    (hrest : execAll is u = .next t) (hctx : t.ctx = s.ctx) : u.ctx = s.ctx := by
  cases hc : s.ctx with
  | main => exact exec_keeps_main hc hu
  | isr =>
    cases hcu : u.ctx with
    | isr => rfl
    | main => exact absurd ((execAll_keeps_main hrest hcu).symm.trans (hctx.trans hc)) nofun

theorem upc_le_of_execAll {is : List Instr} {s t : State} (h : execAll is s = .next t) (hctx : t.ctx = s.ctx) :
    upc t ≤ upc s + is.length := by
  induction is generalizing s with
  | nil => rw [← Host.Outcome.next.inj h]; exact Nat.le_add_right _ _
  | cons i is ih =>
    obtain ⟨u, hu, hrest⟩ := execAll_cons_inv h
    have hcu := ctx_eq_of_execAll_cons hu hrest hctx
    have hstep := upc_le_of_exec hu hcu
    have htail := ih hrest (hctx.trans hcu.symm)
    rw [List.length_cons]
    omega

theorem fault_eq_none_of_execAll {is : List Instr} {s t : State} (h : execAll is s = .next t) (ht : t.fault = none) :
    s.fault = none := by
  induction is generalizing s with
  | nil => rwa [Host.Outcome.next.inj h]
  | cons i is ih =>
    obtain ⟨u, hu, hrest⟩ := execAll_cons_inv h
    exact fault_eq_none_of_exec hu (ih hrest)

/-- No MOP sets PEND, so where PEND = 0, and throughout ISR context, there is no request. -/
theorem pend_eq_of_mop {w : Word} {i : Instr} {s t : State} (hmop : decode w = .mop i) (h : exec i s = .next t) :
    t.pend = s.pend := by
  have hedge : i ≠ .evEdge := fun he => not_mop_of_event .edge (he ▸ hmop)
  have hreset : i ≠ .evReset := fun he => not_mop_of_event .reset (he ▸ hmop)
  obtain ⟨-, -, -, hpend, -⟩ := writersOfTheInterruptState i s t h hreset
  exact (hpend hedge).1

/-- A stretch of the running program that ends in its context, unfaulted and with the counter past the whole stretch,
ran straight on: as SEQ steps it is its MOPs one after the other. -/
theorem seqSteps_eq_execAll {is : List Instr} {s t : State} (h : execAll is s = .next t) (hprog : ProgramHas s is)
    (hfault : t.fault = none) (hrefused : s.refused = false) (hctx : t.ctx = s.ctx)
    (hupc : upc t = upc s + is.length) (hquiet : s.ctx = .isr ∨ s.pend = false) : seqSteps is.length s = .next t := by
  induction is generalizing s with
  | nil => exact h
  | cons i is ih =>
    obtain ⟨u, hu, hrest⟩ := execAll_cons_inv h
    have hcu := ctx_eq_of_execAll_cons hu hrest hctx
    have hnext : upc u = upc s + 1 := by
      have hstep := upc_le_of_exec hu hcu
      have htail := upc_le_of_execAll hrest (hctx.trans hcu.symm)
      rw [List.length_cons] at hupc
      omega
    have hsame := exec_sameFixed hu
    have hfault' : s.fault = none := fault_eq_none_of_execAll h hfault
    have hrequest : ¬ request s := by
      rintro ⟨hmain, -, -, -, hpend⟩
      obtain hisr | hclear := hquiet
      · exact absurd (hmain.symm.trans hisr) nofun
      · exact absurd (hclear.symm.trans hpend) nofun
    obtain ⟨w, -, hmop⟩ := hprog 0 i rfl
    refine seqSteps_succ ((seqStep_of_programHas hfault' hrefused hrequest hprog).trans hu) (ih hrest ?_ ?_ ?_ ?_ ?_)
    · exact programHas_tail hprog hsame hcu hnext
    · exact hsame.refused.trans hrefused
    · exact hctx.trans hcu.symm
    · rw [hupc, hnext, List.length_cons]; omega
    · rwa [hcu, pend_eq_of_mop hmop hu]

end Sys2Proof.Machine
end

section
/-! The fixed programs run whole (R192 to R195): each is `seqSteps_eq_execAll` on the stretches between interrupt
entry, the two returns and IDLE. -/

namespace Sys2Proof.Machine

open Sys2Proof.Claims

/-- A program that decodes to the MOPs `before`, then `is` and then the rest, has `is` after `before`. -/
theorem programHas_of_mops {s : State} {before is rest : List Instr}
    (h : (runningProgram s).map decode = (before ++ (is ++ rest)).map .mop) (hupc : upc s = before.length) :
    ProgramHas s is := by
  intro k i hi
  obtain ⟨hk, -⟩ := List.getElem?_eq_some_iff.1 hi
  have hall : (before ++ (is ++ rest))[upc s + k]? = some i := by
    rw [hupc, List.getElem?_append_right (Nat.le_add_right _ _), Nat.add_sub_cancel_left,
      List.getElem?_append_left hk, hi]
  exact exists_word_of_mops h hall

/-! ### Boot (R192) -/

/-- BOOT_ROM before its IDLE. -/
def bootStretch (p : Params) : List Instr := .wrDir p.dirValue :: (nvRead p .cur ++ .encout .cur :: arm)

/-- After DIR is set and the slot read. -/
def bootRead (s : State) : State := nvReadEnd .cur (ends { s with dir := s.params.dirValue })

/-- After the byte `c` is shown and the interrupt armed. -/
def shownAndArmed (c : Byte) (s : State) : State :=
  advanceBy 4 { s with
    disp := display s.params c, grpEn := true, pinEn := true, iFlag := true, weArmed := false }

/-- Where BOOT_ROM comes to rest. -/
def bootEnd (s : State) : State := shownAndArmed (slotByte s) (bootRead s)

theorem exec_encout_of_working {r : WReg} {v : Byte} {s : State} (h : working r s = some v) :
    exec (.encout r) s = .next (ends { s with disp := display s.params v }) := by
  rw [exec_encout, withWorking_of_working _ _ h, displayPattern_eq_display, retire_eq_ends]

theorem execAll_showAndArm {c : Byte} {s : State} (hc : s.ctx = .main) (hcur : s.cur = some c) :
    execAll (.encout .cur :: arm) s = .next (shownAndArmed c s) := by
  have hmain : ∀ {v : Byte}, ¬ (s.ctx = .isr ∧ v.getLsbD 2 = true) := fun ⟨hisr, _⟩ => absurd (hc.symm.trans hisr) nofun
  refine execAll_step (exec_encout_of_working (r := .cur) hcur)
    (execAll_step (exec_wrIcr_writes hmain) (execAll_step (exec_wrIcr_writes hmain)
    (execAll_step (exec_wrIcr_writes hmain) ?_)))
  rw [execAll, shownAndArmed]
  simp [ends, advanceBy, hc]

theorem execAll_bootStretch {s : State} (h : ready s) (hc : s.ctx = .main) :
    execAll (bootStretch s.params) s = .next (bootEnd s) := by
  have hdir : exec (.wrDir s.params.dirValue) s = .next (ends { s with dir := s.params.dirValue }) := rfl
  have hread := execAll_nvRead .cur (s := ends { s with dir := s.params.dirValue }) h
    fun hisr => absurd (hc.symm.trans hisr) nofun
  exact execAll_step hdir ((execAll_append _ hread).trans (execAll_showAndArm (s := bootRead s) hc rfl))

theorem mpc_bootEnd {s : State} (hc : s.ctx = .main) : (bootEnd s).mpc = s.mpc + 12 := by
  simp [bootEnd, shownAndArmed, bootRead, nvReadEnd, advanceBy, ends, hc]

/-- At MPC 12 BOOT_ROM has its IDLE. -/
theorem currentMop_at_idle {s : State} (hprogram : s.mainProgram = bootRom s.params) (hc : s.ctx = .main)
    (hmpc : s.mpc = 12) : currentMop s = some .idle := by
  obtain ⟨w, hw, hmop⟩ := exists_word_of_mops (bootRom_decode s.params) (n := 12) (i := .idle) rfl
  have hfetch : fetchWord s = some w := by rw [fetchWord_eq_fetched, fetched, if_pos hc, hprogram, hmpc, hw]
  simp only [currentMop, hfetch, hmop]

/-- R248: the machine is at rest at that IDLE, with nothing pending, in flight or stopped. -/
theorem atRest_at_idle {s : State} (hprogram : s.mainProgram = bootRom s.params) (hc : s.ctx = .main)
    (hmpc : s.mpc = 12) (hpend : s.pend = false) (hbusy : s.busy = false) (hfault : s.fault = none)
    (hrefused : s.refused = false) : atRest s = true := by
  have hidle := currentMop_at_idle hprogram hc hmpc
  simp [atRest, stopped, holdsAtIdle, atIdle, irq, hc, hpend, hbusy, hfault, hrefused, hidle]

/-- Settles O57. -/
theorem bootShowsTheStoredDigit : Obligations.BootShowsTheStoredDigit := by
  unfold Obligations.BootShowsTheStoredDigit
  intro s hclean hfixed hturns hpgm
  obtain ⟨⟨-, hbusy, hc, hmpc, -⟩, ⟨-, -, hT, -, -, hpend⟩, hfault, hrefused⟩ := (cleanLaunch_iff s).1 hclean
  obtain ⟨hboot, -⟩ := (fixedPrograms_iff s).1 hfixed
  have hrun : runningProgram s = bootRom s.params := by simp [runningProgram, hc, hboot]
  have hupc : upc s = 0 := (upc_main hc).trans hmpc
  have hend : (bootEnd s).mpc = 12 := by rw [mpc_bootEnd hc, hmpc]
  have hprog : ProgramHas s (bootStretch s.params) :=
    programHas_of_mops (before := []) (hrun ▸ bootRom_decode s.params) hupc
  have hsteps : seqSteps 12 s = .next (bootEnd s) :=
    seqSteps_eq_execAll (execAll_bootStretch ⟨hbusy, hpgm⟩ hc) hprog hfault hrefused rfl
      (by rw [upc_main (s := bootEnd s) hc, hend, hupc]; rfl) (.inr hpend)
  exact ⟨bootEnd s, run_of_no_turns hturns hsteps, hend, hc, rfl, rfl, rfl, rfl, rfl, rfl, hT, rfl, rfl,
    atRest_at_idle hboot hc hend hpend hbusy hfault hrefused⟩

/-! ### The handler (R193, R194) -/

/-- In ISR context HANDLER_ROM goes on at HPC. -/
theorem programHas_handler {s : State} {before is rest : List Instr} (hprogram : s.handlerProgram = handlerRom s.params)
    (hc : s.ctx = .isr) (h : handlerMops s.params = before ++ (is ++ rest)) (hhpc : s.hpc = before.length) :
    ProgramHas s is := by
  have hrun : runningProgram s = handlerRom s.params := by simp [runningProgram, hc, hprogram]
  exact programHas_of_mops (rest := rest) (by rw [hrun, handlerRom_decode, h]) ((upc_isr hc).trans hhpc)

theorem not_request_of_isr {s : State} (hc : s.ctx = .isr) : ¬ request s :=
  fun hrequest => absurd (hrequest.1.symm.trans hc) nofun

/-- R193: with T = 0 the handler is its entry and one FLIPT. -/
theorem seqSteps_firstEdge {s : State} (hfault : s.fault = none) (hrefused : s.refused = false) (hrequest : request s)
    (hT : s.tFlag = false) (hprogram : s.handlerProgram = handlerRom s.params) :
    seqSteps 2 s = .next { s with tFlag := true, pend := false, hpc := 0, weArmed := false } := by
  have hentry := seqStep_of_request hfault hrefused hrequest
  have hprog : ProgramHas (interruptEntry s) (handlerMops s.params) :=
    programHas_handler (s := interruptEntry s) (before := []) hprogram rfl (List.append_nil _).symm rfl
  have hflipt : seqStep (interruptEntry s) = .next (interruptReturn { interruptEntry s with tFlag := true }) :=
    (seqStep_of_programHas (s := interruptEntry s) hfault hrefused (not_request_of_isr rfl) hprog).trans
      (exec_flipt_first (s := interruptEntry s) rfl hT)
  obtain ⟨hc, hI, -⟩ := hrequest
  have hend : interruptReturn { interruptEntry s with tFlag := true } =
      { s with tFlag := true, pend := false, hpc := 0, weArmed := false } := by
    simp [interruptReturn, interruptEntry, hc, hI]
  exact seqSteps_succ hentry (seqSteps_succ hflipt (hend ▸ rfl))

/-- Settles O58. -/
theorem firstEdgeOnlyFlipsT : Obligations.FirstEdgeOnlyFlipsT := by
  unfold Obligations.FirstEdgeOnlyFlipsT
  exact fun s hturns hfault hrefused hrequest hT hprogram =>
    run_of_no_turns hturns (seqSteps_firstEdge hfault hrefused hrequest hT hprogram)

/-- HANDLER_ROM before its RETI. -/
def handlerStretch (p : Params) : List Instr :=
  .flipt :: .tgls :: (nvRead p .cur ++ .inc :: (nvWrite p .nxt ++ [.encout .nxt]))

theorem handlerMops_eq (p : Params) : handlerMops p = handlerStretch p ++ [.reti] := rfl

/-- The digit that follows the stored one. -/
def nextSlotByte (s : State) : Byte := nextDigit s.params (slotByte s)

/-- After the second edge of a press is taken and S toggled. -/
def edgeTaken (s : State) : State := ends { ends { s with tFlag := false } with sLine := !s.sLine }

/-- After the slot is read and the next digit stands in NXT. -/
def digitCounted (s : State) : State :=
  ends { nvReadEnd .cur (edgeTaken s) with nxt := some (nextSlotByte s) }

/-- Where HANDLER_ROM stands before its RETI, if it found T = 1 and nothing in flight: the digit latched and shown. -/
def handlerEnd (s : State) : State :=
  ends { nvWriteEnd (nextSlotByte s) (digitCounted s) with disp := display s.params (nextSlotByte s) }

theorem exec_inc_of_cur {v : Byte} {s : State} (h : s.cur = some v) :
    exec .inc s = .next (ends { s with nxt := some (nextDigit s.params v) }) := by
  rw [exec_inc, withWorking_of_working (r := .cur) _ _ h, incDigit_eq_nextDigit, writeWorking_eq_setWorking,
    retire_eq_ends]
  rfl

theorem execAll_handlerStretch {s : State} (h : ready s) (hc : s.ctx = .isr) (hI : s.iFlag = false)
    (hT : s.tFlag = true) : execAll (handlerStretch s.params) s = .next (handlerEnd s) := by
  have hread : execAll (nvRead s.params .cur) (edgeTaken s) = .next (nvReadEnd .cur (edgeTaken s)) :=
    execAll_nvRead .cur h fun _ => hI
  have hinc : exec .inc (nvReadEnd .cur (edgeTaken s)) = .next (digitCounted s) := exec_inc_of_cur rfl
  have hwrite : execAll (nvWrite s.params .nxt) (digitCounted s) =
      .next (nvWriteEnd (nextSlotByte s) (digitCounted s)) := execAll_nvWrite h rfl fun _ => hI
  have hshow : exec (.encout .nxt) (nvWriteEnd (nextSlotByte s) (digitCounted s)) = .next (handlerEnd s) :=
    exec_encout_of_working (r := .nxt) rfl
  exact execAll_step (exec_flipt_second hc hT) (execAll_step (exec_tgls _) ((execAll_append _ hread).trans
    (execAll_step hinc ((execAll_append _ hwrite).trans (execAll_step hshow rfl)))))

theorem hpc_handlerEnd {s : State} (hc : s.ctx = .isr) : (handlerEnd s).hpc = s.hpc + 19 := by
  simp [handlerEnd, digitCounted, edgeTaken, nvReadEnd, nvWriteEnd, advanceBy, ends, hc]

/-- Where a handler run that counts a press leaves the machine (R194). -/
def pressed (s : State) : State :=
  { s with
    ctx := .main, hpc := 19, iFlag := true, savedI := false, tFlag := false, sLine := !s.sLine, pend := false
    cur := some (slotByte s), nxt := some (nextSlotByte s), nvadr := slotWord s, nvdat := nextSlotByte s
    ladr := slotWord s, ldat := nextSlotByte s, busy := true, disp := display s.params (nextSlotByte s)
    weArmed := false }

theorem interruptReturn_handlerEnd (s : State) : interruptReturn (handlerEnd (interruptEntry s)) = pressed s := by
  simp [interruptReturn, interruptEntry, handlerEnd, digitCounted, edgeTaken, nvReadEnd, nvWriteEnd, advanceBy, ends,
    pressed, writeWorking, slotWord, nextSlotByte, slotByte]

/-- R194: with T = 1 and nothing in flight, the handler is its entry, the stretch before RETI, and RETI. -/
theorem seqSteps_secondEdge {s : State} (hfault : s.fault = none) (hrefused : s.refused = false) (hrequest : request s)
    (hT : s.tFlag = true) (h : ready s) (hprogram : s.handlerProgram = handlerRom s.params) :
    seqSteps 21 s = .next (pressed s) := by
  have hentry := seqStep_of_request hfault hrefused hrequest
  have hhpc : (handlerEnd (interruptEntry s)).hpc = 19 := hpc_handlerEnd rfl
  have hstretch : seqSteps 19 (interruptEntry s) = .next (handlerEnd (interruptEntry s)) :=
    seqSteps_eq_execAll (execAll_handlerStretch (s := interruptEntry s) h rfl rfl hT)
      (programHas_handler (s := interruptEntry s) (before := []) hprogram rfl (handlerMops_eq _) rfl)
      hfault hrefused rfl hhpc (.inl rfl)
  have hreti : seqStep (handlerEnd (interruptEntry s)) = .next (pressed s) := by
    have hprog : ProgramHas (handlerEnd (interruptEntry s)) [.reti] :=
      programHas_handler (s := handlerEnd (interruptEntry s)) (before := handlerStretch s.params) (rest := [])
        hprogram rfl rfl hhpc
    rw [seqStep_of_programHas (s := handlerEnd (interruptEntry s)) hfault hrefused (not_request_of_isr rfl) hprog,
      exec_reti_isr (s := handlerEnd (interruptEntry s)) rfl, interruptReturn_handlerEnd]
  exact seqSteps_succ hentry (seqSteps_add hstretch (seqSteps_succ hreti rfl))

theorem latchAddr_pressed (s : State) : latchAddr (pressed s) = s.params.slotAddr.toNat % cells s :=
  latchAddr_of_slotWord rfl rfl

/-- Settles O59. -/
theorem secondEdgeCountsOnePress : Obligations.SecondEdgeCountsOnePress := by
  unfold Obligations.SecondEdgeCountsOnePress
  intro s hturns hfault hrefused hrequest hT hready hprogram
  have haddr : addr (pressed s) = s.params.slotAddr.toNat % cells s := addr_of_slotWord rfl rfl
  exact ⟨pressed s, run_of_no_turns hturns (seqSteps_secondEdge hfault hrefused hrequest hT hready hprogram), rfl, rfl,
    rfl, rfl, rfl, rfl, rfl, rfl, rfl, rfl, haddr, (latchAddr_pressed s).trans haddr.symm, rfl, rfl, rfl, rfl, hfault,
    hrefused⟩

/-! ### A press: two edges and a commit (R195) -/

theorem exec_evEdge_of_enabled {s : State} (hgrp : s.grpEn = true) (hpin : s.pinEn = true) :
    exec .evEdge s = .next { s with inLine := !s.inLine, pend := true } := by
  rw [exec_evEdge, hgrp, hpin, Bool.and_true, Bool.or_true]

/-- After the first edge of a press and its handler run. -/
def halfPressed (s : State) : State :=
  { s with inLine := !s.inLine, tFlag := true, pend := false, hpc := 0, weArmed := false }

/-- At the second edge of a press. -/
def secondEdge (s : State) : State := { s with tFlag := true, pend := true, hpc := 0, weArmed := false }

/-- After the press and its commit. -/
def pressCommitted (s : State) : State :=
  { pressed (secondEdge s) with
    nvm := memWrite s.nvm (s.params.slotAddr.toNat % cells s) (nextSlotByte s), busy := false }

/-- The turns of a press, up to its commit. -/
def pressTurns : List Turn :=
  .env .edge :: (List.replicate 2 .seq ++ .env .edge :: (List.replicate 21 .seq ++ [.env .commit]))

/-- Settles O60: the edges are ENV's turns, their handler runs those of R193 and R194, and COMMIT writes the byte that
the second one latched for the slot. -/
theorem twoEdgesMakeOnePress : Obligations.TwoEdgesMakeOnePress := by
  unfold Obligations.TwoEdgesMakeOnePress
  intro s hturns hfault hrefused hc hI hgrp hpin hpend hT hready hprogram
  have hedge : exec .evEdge s = .next { s with inLine := !s.inLine, pend := true } := exec_evEdge_of_enabled hgrp hpin
  have hfirst : seqSteps 2 { s with inLine := !s.inLine, pend := true } = .next (halfPressed s) :=
    seqSteps_firstEdge (s := { s with inLine := !s.inLine, pend := true }) hfault hrefused ⟨hc, hI, hgrp, hpin, rfl⟩ hT
      hprogram
  have hedge' : exec .evEdge (halfPressed s) = .next (secondEdge s) := by
    rw [exec_evEdge_of_enabled (s := halfPressed s) hgrp hpin]
    simp [halfPressed, secondEdge]
  have hsecond : seqSteps 21 (secondEdge s) = .next (pressed (secondEdge s)) :=
    seqSteps_secondEdge (s := secondEdge s) hfault hrefused ⟨hc, hI, hgrp, hpin, rfl⟩ rfl hready hprogram
  have hcommit : exec .evCommit (pressed (secondEdge s)) = .next (pressCommitted s) :=
    exec_evCommit_of_latched rfl (latchAddr_pressed (secondEdge s)) rfl
  have hrun : Host.Core.run core 26 { s with turns := pressTurns } = .next { pressCommitted s with turns := [] } :=
    run_of_env_turn (e := .edge) _ hedge (run_of_seq_turns (m := 23) _ hfirst (run_of_env_turn (e := .edge) _ hedge'
      (run_of_seq_turns (m := 1) _ hsecond (run_of_env_turn (e := .commit) (m := 0) _ hcommit rfl))))
  have hslot : slotByte { pressCommitted s with turns := [] } = nextSlotByte s := by
    rw [slotByte_eq]
    exact memRead_memWrite_self _ _ _
  refine ⟨{ pressCommitted s with turns := [] }, ?_, hslot, rfl, by rw [hslot]; rfl, rfl, rfl, rfl, rfl, rfl, rfl,
    fun a ha => memRead_memWrite_other _ _ _ _ ha⟩
  rw [← hrun]
  exact congrArg (fun l => Host.Core.run core 26 { s with turns := l }) hturns

end Sys2Proof.Machine
end
